-- ==== Sys2Proof/Word.lean ====
section
/-! DEFINITION. The words of the part: bytes of frames, 16-bit broker times, 32-bit value fields. -/

namespace Sys2Proof

/-- A byte of a frame, of a device transfer or of a port's buffer. -/
abbrev Byte := BitVec 8

/-- A 16-bit broker time, which wraps from 65535 to 0 (R183). -/
abbrev Time := BitVec 16

/-- A 4-byte field: a setting's value field (R177) or a limit field (R190). -/
abbrev Field := BitVec 32

end Sys2Proof
end

