-- ==== Sys2Proof/Config.lean ====
section
/-! DEFINITION. What the part fixes: the capacities of its tables and lists. There is no free value: the spec leaves
no value of a result open (assumption log 26). -/

namespace Sys2Proof.Config

/-- Tickets the queue holds, of all origins (R5). -/
def maxTickets : Nat := 24

/-- Completion records of one result ring (R78). -/
def maxRing : Nat := 8

/-- Notices of one notice list (R87). -/
def maxNotices : Nat := 16

/-- Leases of the lease table (R96). -/
def maxLeases : Nat := 8

/-- Mirror entries (R109). -/
def maxEntries : Nat := 32

/-- Bytes a port's receive buffer keeps (R149, R164). -/
def maxBuffer : Nat := 39

/-- Payload bytes of a response frame (R135). -/
def maxPayload : Nat := 72

/-- Where a count of notices, or a lost count, stops (R85, R88). -/
def maxCount : Nat := 255

/-- Where an entry's age count stops (R118). -/
def maxAge : Nat := 65535

/-- The longest queue limit, in ms (R4, R120). -/
def maxQueueLimit : Nat := 2550

end Sys2Proof.Config
end

