-- ==== Sys2Proof/Syntax.lean ====
section
/-! DEFINITION. The commands of the block: one constructor of `Instr` for each row of spec/opcode_table.json, with
the row's operands. A command of a controller carries the direct origin that makes it (R133) and its parameters as
Table 11.1 lays them out; an event carries what the part sees of it. -/

namespace Sys2Proof

/-- A direct origin (Table 0.2). -/
inductive Direct where
  | a | b | c
  deriving DecidableEq, Repr

/-- An origin: the three direct origins and the poll engine P (Table 0.2). -/
inductive Origin where
  | a | b | c | p
  deriving DecidableEq, Repr

/-- The two two-wire ports (chapter 8). -/
inductive TwPort where
  | a | b
  deriving DecidableEq, Repr

/-- The two bus conditions that end or begin a transfer; a repeated START is a START (R30). -/
inductive Cond where
  | start | stop
  deriving DecidableEq, Repr

/-- How a read at a two-wire port ends before its check byte (R155). -/
inductive ReadEnd where
  | nack | start | stop
  deriving DecidableEq, Repr

/-- The two lines of the D-bus. -/
inductive BusLine where
  | scl | sda
  deriving DecidableEq, Repr

/-- What the engine had sampled of the byte in progress when an event cuts it: nothing that counts, the ACK of a
write byte (R60: counted when sampled), or the eighth bit of a read byte (R46: kept when sampled). -/
inductive Sampled where
  | nothing
  | writeAck
  | readByte (byte : Byte)
  deriving DecidableEq, Repr

/-- The cause of a broker reset (R187). -/
inductive ResetCause where
  | powerOn | external
  deriving DecidableEq, Repr

/-- The commands: the rows of spec/opcode_table.json. -/
inductive Instr where
  /-- SUBMIT (R141): kind and flags, device address, queue limit, read length, write data. -/
  | submit (o : Direct) (kindFlags addr limit readLen : Byte) (data : List Byte)
  /-- TRANSACT (R143): the parameters of SUBMIT. -/
  | transact (o : Direct) (kindFlags addr limit readLen : Byte) (data : List Byte)
  /-- CANCEL (R16): the ticket number. -/
  | cancel (o : Direct) (number : Byte)
  /-- TICKET QUERY (R18): the ticket number. -/
  | ticketQuery (o : Direct) (number : Byte)
  /-- COLLECT (R81): ack k and max n. -/
  | collect (o : Direct) (ack max : Byte)
  /-- NOTICES (R90): ack k, the lost-seen byte, max n. -/
  | notices (o : Direct) (ack lostSeen max : Byte)
  /-- LEASE (R97): device address, duration in 10 ms units, flags. -/
  | lease (o : Direct) (addr : Byte) (duration : BitVec 16) (flags : Byte)
  /-- RELEASE (R100): device address. -/
  | release (o : Direct) (addr : Byte)
  /-- MIRROR DEFINE (R111): index, flags, device address, register byte, width, interval, the two limits. -/
  | mirrorDefine (o : Direct) (index flags addr reg width : Byte) (interval : BitVec 16) (low high : Field)
  /-- MIRROR DROP (R114): index. -/
  | mirrorDrop (o : Direct) (index : Byte)
  /-- MIRROR READ (R117): 1 to 8 indices. -/
  | mirrorRead (o : Direct) (indices : List Byte)
  /-- SUBSCRIBE (R116): index. -/
  | subscribe (o : Direct) (index : Byte)
  /-- UNSUBSCRIBE (R116): index. -/
  | unsubscribe (o : Direct) (index : Byte)
  /-- REFRESH (R123): index. -/
  | refresh (o : Direct) (index : Byte)
  /-- SETTING READ (R178): setting number. -/
  | settingRead (o : Direct) (number : Byte)
  /-- SETTING WRITE (R179): setting number and value field, first byte in the lowest eight bits. -/
  | settingWrite (o : Direct) (number : Byte) (value : Field)
  /-- STATUS (R182). -/
  | status (o : Direct)
  /-- ORIGIN RESET (R185). -/
  | originReset (o : Direct)
  /-- BUS RECOVER (R71). -/
  | busRecover (o : Direct)
  /-- Port A or B takes the eighth bit of an address byte, after its START (R148). -/
  | upstreamAddressByte (port : TwPort) (byte : Byte)
  /-- A condition at a byte boundary in RECEIVE ends the write transfer that carried these bytes (R150). -/
  | writeTransferEnd (port : TwPort) (bytes : List Byte) (cond : Cond)
  /-- A condition inside a byte in RECEIVE aborts the write transfer (R151). -/
  | writeTransferAbort (port : TwPort) (cond : Cond)
  /-- The ninth pulse of the response's check byte has ended, with the controller's acknowledge bit (R154). -/
  | responseReadComplete (port : TwPort) (ack : Bool)
  /-- A read ends before the check byte's ninth pulse has ended, or in the 0xFF bytes after it (R155). -/
  | readEndedEarly (port : TwPort) (how : ReadEnd)
  /-- A read of an EMPTY slot sends the NO_REQUEST frame, with the controller's last acknowledge bit (R156). -/
  | noRequest (port : TwPort) (ack : Bool)
  /-- The hold count of Port A or B runs out (R158). -/
  | holdLimitExpiry (port : TwPort)
  /-- A falling edge of C-CLK while BETWEEN (R163, R166). -/
  | blockStart
  /-- The gap time ends a block that carried these complete bytes and so many bits of a partial one (R163). -/
  | blockEnd (bytes : List Byte) (partialBits : Nat)
  /-- Port C's hold count runs out (R173). -/
  | portCHoldExpiry
  /-- The scheduler's choice, and the START of the ticket chosen (R24, R42). -/
  | ticketStart
  /-- The end of the address byte of ADDRESS, with the device's acknowledge bit (R43). -/
  | addressByteEnd (ack : Bool)
  /-- The end of a write byte, with the device's acknowledge bit (R44). -/
  | writeByteEnd (ack : Bool)
  /-- The end of the read address of RESTART, with the device's acknowledge bit (R45). -/
  | restartEnd (ack : Bool)
  /-- The end of a read byte (R46). -/
  | readByteEnd (byte : Byte)
  /-- The engine's STOP is complete (R47). -/
  | stopComplete
  /-- D-SDA is low at a check point (R48, R49). -/
  | arbitrationLost (cut : Sampled)
  /-- A condition the engine did not make, inside its transfer (R51). -/
  | misplacedCondition (cond : Cond) (cut : Sampled)
  /-- The byte stretch limit expires; the levels are those seen once the engine has let go (R60, R63). -/
  | stretchTimeout (cut : Sampled) (scl sda : Bool)
  /-- The transaction limit expires; the levels are those seen once the engine has let go (R60, R63). -/
  | transactionTimeout (cut : Sampled) (scl sda : Bool)
  /-- D-SCL rises in the wait that begins a recovery attempt, with the level of D-SDA (R63). -/
  | recoveryClockRise (sda : Bool)
  /-- A recovery clock pulse samples D-SDA (R64). -/
  | recoveryPulse (sda : Bool)
  /-- The stuck limit runs out in a wait of the recovery sequence (R63, R64). -/
  | stuckLimitExpiry
  /-- The recovery STOP is complete (R65). -/
  | recoveryStopComplete
  /-- D-SDA is still low one own high time after the release of the recovery STOP (R64). -/
  | recoveryStopFail
  /-- The retry count runs out in STUCK (R68). -/
  | retryCountExpiry
  /-- A START the engine did not make (R37). -/
  | foreignStart
  /-- A STOP the engine did not make (R37). -/
  | stopSeen
  /-- The bus free time has passed since a STOP (R37). -/
  | busFreeTimePassed
  /-- The idle count reaches the idle-detect time (R38). -/
  | idleDetect
  /-- In FREE, a line falls and it is no START (R39). -/
  | lineFallInFree (line : BusLine)
  /-- The held-data count expires (R73). -/
  | heldDataExpiry
  /-- The queue deadline of the ticket of that origin with that number is reached (R14). -/
  | deadlineExpiry (origin : Origin) (number : Nat)
  /-- The lease on that address reaches its expiry time (R102). -/
  | leaseExpiry (addr : Byte)
  /-- That mirror entry reaches its next due time (R119). -/
  | pollDue (index : Nat)
  /-- The age count of that FRESH entry has passed its stale limit (R130). -/
  | staleness (index : Nat)
  /-- One change of the broker time (R183). -/
  | brokerTimeTick
  /-- A broker reset begins (R187). -/
  | brokerResetEntry (cause : ResetCause)
  /-- A broker reset is released, with the strap pins and the levels of the D-bus lines (R188, R192). -/
  | brokerResetRelease (adsel1 adsel0 scl sda : Bool)
  /-- A D-bus line changes to that level, and it is no condition and no fall in FREE (R38, R73). -/
  | dBusLineChange (line : BusLine) (level : Bool)
  /-- A STOP on the upstream bus in IGNORE or inside an address byte (R148). -/
  | upstreamStop (port : TwPort)
  deriving DecidableEq, Repr

end Sys2Proof
end

