-- ==== Sys2Proof/WellFormed.lean ====
section
/-! DEFINITION. Which commands are well formed: those a frame can carry (Table 7.2) and those whose operand names
something the part can hold. A meaning does not rely on it: an ill-formed command is refused or not taken. -/

namespace Sys2Proof

/-- The write data of a SUBMIT or TRANSACT: L − 4 bytes with L at most 36 (Table 7.2). -/
def dataFits (data : List Byte) : Bool := data.length ≤ 32

/-- The indices of a MIRROR READ: 1 to 8 (Table 7.2). -/
def indicesFit (indices : List Byte) : Bool := 1 ≤ indices.length && indices.length ≤ 8

/-- A ticket's number in an expiry: an entry index for P, 1 to 255 for a direct origin (Table 1.1). -/
def numberFits (origin : Origin) (number : Nat) : Bool :=
  match origin with
  | .p => number < Config.maxEntries
  | _ => 1 ≤ number && number ≤ 255

/-- The checks on a command's operands. -/
def Instr.wellFormed (i : Instr) : Bool :=
  match i with
  | .submit _ _ _ _ _ data => dataFits data
  | .transact _ _ _ _ _ data => dataFits data
  | .mirrorRead _ indices => indicesFit indices
  | .blockEnd _ partialBits => partialBits < 8
  | .deadlineExpiry origin number => numberFits origin number
  | .pollDue index => index < Config.maxEntries
  | .staleness index => index < Config.maxEntries
  | .cancel .. | .ticketQuery .. | .collect .. | .notices .. | .lease .. | .release .. | .mirrorDefine ..
  | .mirrorDrop .. | .subscribe .. | .unsubscribe .. | .refresh .. | .settingRead .. | .settingWrite ..
  | .status .. | .originReset .. | .busRecover .. | .upstreamAddressByte .. | .writeTransferEnd ..
  | .writeTransferAbort .. | .responseReadComplete .. | .readEndedEarly .. | .noRequest .. | .holdLimitExpiry ..
  | .blockStart | .portCHoldExpiry | .ticketStart | .addressByteEnd .. | .writeByteEnd .. | .restartEnd ..
  | .readByteEnd .. | .stopComplete | .arbitrationLost .. | .misplacedCondition .. | .stretchTimeout ..
  | .transactionTimeout .. | .recoveryClockRise .. | .recoveryPulse .. | .stuckLimitExpiry
  | .recoveryStopComplete | .recoveryStopFail | .retryCountExpiry | .foreignStart | .stopSeen
  | .busFreeTimePassed | .idleDetect | .lineFallInFree .. | .heldDataExpiry | .leaseExpiry .. | .brokerTimeTick
  | .brokerResetEntry .. | .brokerResetRelease .. | .dBusLineChange .. | .upstreamStop .. => true

end Sys2Proof
end

