-- ==== Sys2Proof/Decode.lean ====
section
/-! DEFINITION. The words the part decodes: the request frames of chapter 7 with their check byte (R134 to R141,
R190), an encoder of the same frames, and the response frames it builds (R135). The opcode table gives its rows no
bits, so `decodeTableWord` answers none. -/

namespace Sys2Proof

/-- No row of spec/opcode_table.json has bits, so no word spells a command. -/
def decodeTableWord (_nbits _w : Nat) : Option Instr := none

/-! ### The check byte (R136) -/

/-- One step of the check register: shift toward the most significant end, and combine 0x1D where the bit shifted
out was 1 (R136 step 3). -/
def crcStep (r : Byte) : Byte := if r.msb then (r <<< 1) ^^^ 0x1D#8 else r <<< 1

/-- One byte passed through the check register (R136 steps 2 and 3). -/
def crcByte (r b : Byte) : Byte :=
  crcStep (crcStep (crcStep (crcStep (crcStep (crcStep (crcStep (crcStep (r ^^^ b))))))))

/-- The register after the bytes have passed through it from 0xFF (R136). -/
def checkByte (bytes : List Byte) : Byte := bytes.foldl crcByte 0xFF#8

/-- A frame: its bytes and then their check byte (R134, R135). -/
def closeFrame (body : List Byte) : List Byte := body ++ [checkByte body]

/-! ### Byte order (0.6, R190, R191) -/

/-- A number as a byte of a payload. -/
def byteOf (n : Nat) : Byte := BitVec.ofNat 8 n

/-- Two bytes of a 16-bit number, least significant first. -/
def bytes16 (x : BitVec 16) : List Byte := [x.extractLsb' 0 8, x.extractLsb' 8 8]

/-- The 16-bit number of two bytes, least significant first. -/
def word16 (b0 b1 : Byte) : BitVec 16 := b1 ++ b0

/-- Byte `k` of a 4-byte field, byte 0 the least significant (R177). -/
def fieldByte (x : Field) (k : Nat) : Byte := x.extractLsb' (8 * k) 8

/-- The four bytes of a field, least significant first. -/
def bytes32 (x : Field) : List Byte := [fieldByte x 0, fieldByte x 1, fieldByte x 2, fieldByte x 3]

/-- The field of four bytes, least significant first. -/
def word32 (b0 b1 b2 b3 : Byte) : Field := (b3 ++ b2) ++ (b1 ++ b0)

/-! ### Statuses and response frames (Table 7.3, R135) -/

/-- The statuses of Table 7.3. -/
inductive Status where
  | ok | pending | refusedFull | refusedQuota | held | noRoom | tooLate | notOwner | noSuch | badParam | badAddress
  | busy | badCheck | badLength | unknownCommand | noRequest
  deriving DecidableEq, Repr

/-- The code of a status (Table 7.3). -/
def Status.code : Status → Byte
  | .ok => 0x00#8
  | .pending => 0x01#8
  | .refusedFull => 0x10#8
  | .refusedQuota => 0x11#8
  | .held => 0x12#8
  | .noRoom => 0x13#8
  | .tooLate => 0x14#8
  | .notOwner => 0x15#8
  | .noSuch => 0x16#8
  | .badParam => 0x17#8
  | .badAddress => 0x18#8
  | .busy => 0x19#8
  | .badCheck => 0x20#8
  | .badLength => 0x21#8
  | .unknownCommand => 0x22#8
  | .noRequest => 0x23#8

/-- A response frame: status, M, payload, check byte (R135). -/
def responseFrame (status : Status) (payload : List Byte) : List Byte :=
  closeFrame (status.code :: byteOf payload.length :: payload)

/-! ### The decoder's checks (R137) -/

/-- What the decoder makes of a frame: a refusal of its own, or the command for its owner. -/
inductive Decoded where
  | refused (status : Status)
  | command (i : Instr)
  deriving DecidableEq, Repr

/-- Check 1 of R137: at least 3 bytes, L at most 36, at least L + 3 bytes, not cut short and not oversize; from
Ports A and B (`exact`) no more than L + 3 bytes. -/
def lengthRight (bytes : List Byte) (cut oversize exact : Bool) : Bool :=
  match bytes with
  | _ :: l :: _ :: _ =>
    l.toNat ≤ 36 && l.toNat + 3 ≤ bytes.length && !cut && !oversize && (!exact || bytes.length ≤ l.toNat + 3)
  | _ => false

/-- Checks 3 and 4 of R137 and the parameters as Table 11.1 lays them out. -/
def commandOf (o : Direct) (code : Byte) (params : List Byte) : Decoded :=
  match code.toNat, params with
  | 0x10, kf :: a :: q :: r :: data => .command (.submit o kf a q r data)
  | 0x11, kf :: a :: q :: r :: data => .command (.transact o kf a q r data)
  | 0x12, [n] => .command (.cancel o n)
  | 0x13, [n] => .command (.ticketQuery o n)
  | 0x20, [k, n] => .command (.collect o k n)
  | 0x21, [k, s, n] => .command (.notices o k s n)
  | 0x30, [a, d0, d1, f] => .command (.lease o a (word16 d0 d1) f)
  | 0x31, [a] => .command (.release o a)
  | 0x40, [i, f, a, r, w, t0, t1, l0, l1, l2, l3, h0, h1, h2, h3] =>
    .command (.mirrorDefine o i f a r w (word16 t0 t1) (word32 l0 l1 l2 l3) (word32 h0 h1 h2 h3))
  | 0x41, [i] => .command (.mirrorDrop o i)
  | 0x42, indices =>
    if 1 ≤ indices.length && indices.length ≤ 8 then .command (.mirrorRead o indices) else .refused .badLength
  | 0x43, [i] => .command (.subscribe o i)
  | 0x44, [i] => .command (.unsubscribe o i)
  | 0x45, [i] => .command (.refresh o i)
  | 0x50, [n] => .command (.settingRead o n)
  | 0x51, [n, v0, v1, v2, v3] => .command (.settingWrite o n (word32 v0 v1 v2 v3))
  | 0x52, [] => .command (.status o)
  | 0x53, [] => .command (.originReset o)
  | 0x60, [] => .command (.busRecover o)
  | 0x10, _ | 0x11, _ | 0x12, _ | 0x13, _ | 0x20, _ | 0x21, _ | 0x30, _ | 0x31, _ | 0x40, _ | 0x41, _ | 0x43, _
  | 0x44, _ | 0x45, _ | 0x50, _ | 0x51, _ | 0x52, _ | 0x53, _ | 0x60, _ => .refused .badLength
  | _, _ => .refused .unknownCommand

/-- The decoder of one port: the four checks of R137 in order, on behalf of the origin the port fixes (R133). -/
def decodeFrame (o : Direct) (bytes : List Byte) (cut oversize exact : Bool) : Decoded :=
  if lengthRight bytes cut oversize exact then
    match bytes with
    | code :: l :: rest =>
      if checkByte ((code :: l :: rest).take (l.toNat + 2)) = (code :: l :: rest).getD (l.toNat + 2) 0#8 then
        commandOf o code (rest.take l.toNat)
      else .refused .badCheck
    | _ => .refused .badLength
  else .refused .badLength

/-! ### The encoder of request frames (R134, Table 11.1) -/

/-- The code and parameter bytes of a controller's command (Tables 7.1 and 11.1); none for an event. -/
def Instr.request (i : Instr) : Option (Direct × Byte × List Byte) :=
  match i with
  | .submit o kf a q r data => some (o, 0x10#8, kf :: a :: q :: r :: data)
  | .transact o kf a q r data => some (o, 0x11#8, kf :: a :: q :: r :: data)
  | .cancel o n => some (o, 0x12#8, [n])
  | .ticketQuery o n => some (o, 0x13#8, [n])
  | .collect o k n => some (o, 0x20#8, [k, n])
  | .notices o k s n => some (o, 0x21#8, [k, s, n])
  | .lease o a d f => some (o, 0x30#8, a :: bytes16 d ++ [f])
  | .release o a => some (o, 0x31#8, [a])
  | .mirrorDefine o i f a r w t l h => some (o, 0x40#8, i :: f :: a :: r :: w :: bytes16 t ++ bytes32 l ++ bytes32 h)
  | .mirrorDrop o i => some (o, 0x41#8, [i])
  | .mirrorRead o indices => some (o, 0x42#8, indices)
  | .subscribe o i => some (o, 0x43#8, [i])
  | .unsubscribe o i => some (o, 0x44#8, [i])
  | .refresh o i => some (o, 0x45#8, [i])
  | .settingRead o n => some (o, 0x50#8, [n])
  | .settingWrite o n v => some (o, 0x51#8, n :: bytes32 v)
  | .status o => some (o, 0x52#8, [])
  | .originReset o => some (o, 0x53#8, [])
  | .busRecover o => some (o, 0x60#8, [])
  | .upstreamAddressByte .. | .writeTransferEnd .. | .writeTransferAbort .. | .responseReadComplete ..
  | .readEndedEarly .. | .noRequest .. | .holdLimitExpiry .. | .blockStart | .blockEnd .. | .portCHoldExpiry
  | .ticketStart | .addressByteEnd .. | .writeByteEnd .. | .restartEnd .. | .readByteEnd .. | .stopComplete
  | .arbitrationLost .. | .misplacedCondition .. | .stretchTimeout .. | .transactionTimeout ..
  | .recoveryClockRise .. | .recoveryPulse .. | .stuckLimitExpiry | .recoveryStopComplete | .recoveryStopFail
  | .retryCountExpiry | .foreignStart | .stopSeen | .busFreeTimePassed | .idleDetect | .lineFallInFree ..
  | .heldDataExpiry | .deadlineExpiry .. | .leaseExpiry .. | .pollDue .. | .staleness .. | .brokerTimeTick
  | .brokerResetEntry .. | .brokerResetRelease .. | .dBusLineChange .. | .upstreamStop .. => none

/-- The request frame of a code and its parameter bytes (R134). -/
def requestFrame (code : Byte) (params : List Byte) : List Byte :=
  closeFrame (code :: byteOf params.length :: params)

/-- The request frame that carries a controller's command; none for an event. -/
def encode (i : Instr) : Option (List Byte) := i.request.map fun (_, code, params) => requestFrame code params

end Sys2Proof
end

