-- ==== Sys2Proof/Machine/State.lean ====
section
/-! DEFINITION. The state of the part as plain data, and the state right after a broker reset. INVENTORY.md lists
every field with the rule that names it. -/

namespace Sys2Proof.Machine

/-! ### One value for each origin -/

/-- One value for each direct origin. -/
structure PerDirect (α : Type) where
  a : α
  b : α
  c : α
  deriving DecidableEq, Repr

/-- One value for each origin. -/
structure PerOrigin (α : Type) where
  a : α
  b : α
  c : α
  p : α
  deriving DecidableEq, Repr

/-! ### Tickets and the queue (chapter 1) -/

/-- Ticket kinds (Table 1.2). -/
inductive Kind where
  | probe | write | read | writeRead
  deriving DecidableEq, Repr

/-- Results of a ticket (R1, Table 4.1). -/
inductive Result where
  | done | noDevice | dataNack | arbLost | stretchTimeout | transactionTimeout | misplacedCondition | expired
  | cancelled
  deriving DecidableEq, Repr

/-- The fields of a ticket (Table 1.1). Its state QUEUED, ACTIVE or DONE_WAITING is the place of the queue that
holds it; the bytes read are the length of the read data. `deadlineReached` holds that the broker time has reached
the queue deadline (R184, log 3), `waited` that a port waits on the ticket (R143). -/
structure Ticket where
  number : Nat
  origin : Origin
  kind : Kind
  addr : Byte
  wdata : List Byte
  rlen : Nat
  noRetry : Bool
  deadline : Time
  deadlineReached : Bool
  submit : Time
  retries : Nat
  result : Option Result
  finish : Option Time
  abort : Bool
  orphaned : Bool
  leaseEnded : Bool
  waited : Bool
  acked : Nat
  rdata : List Byte
  greatest : Nat
  deriving DecidableEq, Repr

/-- The transaction queue and the scheduler: each origin's order of QUEUED tickets, the ACTIVE ticket, each direct
origin's DONE_WAITING tickets in the order they ended, the ticket number counters, and the scheduler's current origin
and credit. -/
structure Queue where
  queued : PerOrigin (List Ticket)
  active : Option Ticket
  waiting : PerDirect (List Ticket)
  counter : PerDirect Nat
  current : Origin
  credit : Nat
  deriving DecidableEq, Repr

/-! ### Origin records (chapter 4) -/

/-- A completion record (Table 4.1). The bytes read are the length of the read data. -/
structure Record where
  number : Nat
  kind : Kind
  addr : Byte
  result : Result
  acked : Nat
  retries : Nat
  leaseEnded : Bool
  submit : Time
  finish : Time
  data : List Byte
  deriving DecidableEq, Repr

/-- Notice kinds (Table 4.4). -/
inductive NoticeKind where
  | valueChanged | limitCrossed | entryFault | entryRecovered | entryDropped | leaseEnded | busStuck | busRecovered
  | settingChanged | brokerRestarted
  deriving DecidableEq, Repr

/-- The subject of a notice (Table 4.3). -/
inductive Subject where
  | none
  | entry (index : Nat)
  | device (addr : Byte)
  | setting (number : Nat)
  deriving DecidableEq, Repr

/-- A notice (Table 4.3); an absent value is the empty list. -/
structure Notice where
  kind : NoticeKind
  subject : Subject
  count : Nat
  value : List Byte
  time : Time
  deriving DecidableEq, Repr

/-- The records of one direct origin (chapter 4). -/
structure Records where
  ring : List Record
  d : Nat
  notices : List Notice
  e : Nat
  lost : Nat
  reported : Nat
  deriving DecidableEq, Repr

/-! ### Leases (chapter 5) -/

/-- A lease (Table 5.1); `reached` holds that the broker time has reached its expiry time (R184, log 3). -/
structure Lease where
  addr : Byte
  holder : Direct
  expiry : Time
  reached : Bool
  polls : Bool
  deriving DecidableEq, Repr

/-! ### The mirror (chapter 6) -/

/-- Statuses of a defined entry (Table 6.2); EMPTY is an absent entry. -/
inductive EntryStatus where
  | pendingFirst | fresh | stale | fault
  deriving DecidableEq, Repr

/-- Range states (R125). -/
inductive RangeState where
  | inRange | below | above
  deriving DecidableEq, Repr

/-- A defined mirror entry (Table 6.1). Its due mark is its place in `State.dueMarks`. `dueReached` holds that the
broker time has reached the next due time and the poll engine has not acted on it (R184, log 3). -/
structure Entry where
  status : EntryStatus
  owner : Direct
  addr : Byte
  reg : Byte
  width : Nat
  msbFirst : Bool
  interval : Nat
  low : Option Nat
  high : Option Nat
  range : RangeState
  value : Option (List Byte)
  age : Nat
  fails : Nat
  due : Time
  dueReached : Bool
  posted : Bool
  subs : PerDirect Bool
  deriving DecidableEq, Repr

/-- A due mark: its entry, and whether it was set on the present change of the broker time (R122), as one that a
definition sets between changes is not (log 37). -/
structure DueMark where
  index : Nat
  fresh : Bool
  deriving DecidableEq, Repr

/-! ### The device bus engine and the bus monitor (chapters 2 and 3) -/

/-- Engine states (Table 2.3). -/
inductive EngineState where
  | idle | address | write | restart | read | stopping | backoff | recovery | stuck
  deriving DecidableEq, Repr

/-- The D-bus rate (setting 0). -/
inductive Rate where
  | khz100 | khz400
  deriving DecidableEq, Repr

/-- An open-drain drive (R29). -/
inductive Drive where
  | released | low
  deriving DecidableEq, Repr

/-- The parts of a recovery attempt (R63, R64): the wait for D-SCL, the clock pulses, the recovery STOP. -/
inductive RecoveryPhase where
  | waitClock | pulse | stop
  deriving DecidableEq, Repr

/-- A count on the broker time (R57): its length N and the changes counted so far. -/
structure Count where
  limit : Nat
  changes : Nat
  deriving DecidableEq, Repr

/-- The device bus engine. `bit` is the bit of the byte in progress, none while a condition is being made. -/
structure Engine where
  state : EngineState
  rate : Rate
  stretchLimit : Nat
  transLimit : Nat
  bit : Option Nat
  fixed : Option Result
  sclDrive : Drive
  sdaDrive : Drive
  stretch : Option Count
  trans : Option Count
  phase : Option RecoveryPhase
  stuckLimit : Nat
  wait : Option Count
  pulses : Nat
  retry : Option Count
  busLost : Bool
  deriving DecidableEq, Repr

/-- Monitor states (Table 2.2). -/
inductive MonitorState where
  | unknown | free | busyOwn | busyForeign
  deriving DecidableEq, Repr

/-- A free-time count (R37): the bus free time it runs to, in 0.1 µs, and whether a recovery STOP began it (R65). -/
structure FreeCount where
  tenths : Nat
  recovery : Bool
  deriving DecidableEq, Repr

/-- The bus monitor, with the levels of the two lines as seen (true: high). -/
structure Monitor where
  state : MonitorState
  scl : Bool
  sda : Bool
  free : Option FreeCount
  idle : Option Nat
  held : Option Count
  deriving DecidableEq, Repr

/-! ### Ports (chapters 8 and 9) -/

/-- A response slot (Tables 8.3 and 9.3): EMPTY, WAITING for an owner's answer, WAITING on a TRANSACT's ticket with
the hold limit read at admission, or READY with a response frame. -/
inductive Slot where
  | empty
  | waiting
  | onTicket (number holdLimit : Nat)
  | ready (frame : List Byte)
  deriving DecidableEq, Repr

/-- Target states (Table 8.2). -/
inductive Target where
  | idle | address | receive | send | hold | ignore
  deriving DecidableEq, Repr

/-- Port A or B (Table 8.1). `handed` is the command the decoder has handed to its owner and the owner has not yet
taken (R139); `out` is the frame of the read in progress (R154, R156). `since` counts the changes of the broker time
since the start of a read that HOLD keeps while its owner has not taken the command: a TRANSACT's hold count is measured
from that start (R143, log 15). -/
structure Tw where
  target : Target
  buffer : List Byte
  oversize : Bool
  slot : Slot
  pos : Nat
  hold : Option Count
  since : Option Nat
  handed : Option Instr
  out : List Byte
  deriving DecidableEq, Repr

/-- Port C (Table 9.1). `since` counts the changes of the broker time since the end of the request block, from which a
TRANSACT's hold count is measured, while its owner has not taken the command (R143, R173, log 15). -/
structure PortC where
  inBlock : Bool
  gap : Option Nat
  bits : Nat
  buffer : List Byte
  bytes : Nat
  lead : Option Byte
  out : Option (List Byte)
  slot : Slot
  discarded : Bool
  hold : Option Count
  since : Option Nat
  handed : Option Instr
  deriving DecidableEq, Repr

/-! ### Settings, pins, the whole -/

/-- The thirteen settings as their value fields (R176, R177). -/
structure Settings where
  rate : Field
  stretch : Field
  transaction : Field
  retryLimit : Field
  idleDetect : Field
  stuckLimit : Field
  retryInterval : Field
  queueLimit : Field
  quotas : Field
  weights : Field
  holdLimits : Field
  attention : Field
  gap : Field
  deriving DecidableEq, Repr

/-- The level a push-pull output drives, or released (R162, R175). -/
inductive Level where
  | released | low | high
  deriving DecidableEq, Repr

/-- The outputs of Table 11.8 as the part drives them. -/
structure Pins where
  attn : PerDirect Drive
  cReady : Level
  cDo : Level
  aScl : Drive
  aSda : Drive
  bScl : Drive
  bSda : Drive
  dScl : Drive
  dSda : Drive
  deriving DecidableEq, Repr

/-- The state of the part, and the queue of commands that wait. `resetting` is the cause of a broker reset in
progress: nRST low, or the supply not valid (R187). -/
structure State where
  resetting : Option ResetCause
  cause : ResetCause
  adsel : Nat
  time : Time
  settings : Settings
  queue : Queue
  engine : Engine
  monitor : Monitor
  leases : List Lease
  mirror : List (Option Entry)
  dueMarks : List DueMark
  records : PerDirect Records
  portA : Tw
  portB : Tw
  portC : PortC
  pins : Pins
  pending : List Instr
  deriving DecidableEq, Repr

/-- The reasons the block stops with a fault: none. The spec names no behaviour of the part that stops it. -/
inductive Fault where
  deriving DecidableEq, Repr

/-- The reasons a command is refused by the model (a refusal of the part itself is a status in its answer). -/
inductive Refusal where
  /-- Raised by the arm of `exec` of a command that has no meaning yet; no arm raises it. Safe: the model stops. -/
  | notModelled (mnemonic : String)
  deriving DecidableEq, Repr

/-! ### Broker reset (R28, R56, R75, R95, R108, R132, R161, R175, R188) -/

/-- The defaults of Table 10.1. -/
def Settings.default : Settings where
  rate := 100#32
  stretch := 8#32
  transaction := 35#32
  retryLimit := 3#32
  idleDetect := 2#32
  stuckLimit := 50#32
  retryInterval := 250#32
  queueLimit := 10#32
  quotas := 0x03070707#32
  weights := 0x01010101#32
  holdLimits := 0x00050505#32
  attention := 0x00010101#32
  gap := 20#32

/-- The queue after a broker reset (R28). -/
def Queue.reset : Queue where
  queued := ⟨[], [], [], []⟩
  active := none
  waiting := ⟨[], [], []⟩
  counter := ⟨1, 1, 1⟩
  current := .p
  credit := 0

/-- The engine after a broker reset (R56, R75). The rate and the limits a ticket or an attempt would have read are at
the settings' defaults: DESIGN CHOICE, unsafe, log 7. -/
def Engine.reset : Engine where
  state := .idle
  rate := .khz100
  stretchLimit := 8
  transLimit := 35
  bit := none
  fixed := none
  sclDrive := .released
  sdaDrive := .released
  stretch := none
  trans := none
  phase := none
  stuckLimit := 50
  wait := none
  pulses := 0
  retry := none
  busLost := false

/-- The monitor at the release of a broker reset, with the levels the lines have then: UNKNOWN, the idle count begun
where both lines are high (R38), the held-data count begun where only D-SDA is low (R73). -/
def Monitor.reset (scl sda : Bool) : Monitor where
  state := .unknown
  scl := scl
  sda := sda
  free := none
  idle := if scl && sda then some 0 else none
  held := if scl && !sda then some ⟨50, 0⟩ else none

/-- An origin's records with nothing in them (R93). -/
def Records.empty : Records := ⟨[], 0, [], 0, 0, 0⟩

/-- Table 11.2: reset causes. -/
def causeCode : ResetCause → Byte
  | .powerOn => 1#8
  | .external => 2#8

/-- The BROKER_RESTARTED notice of a broker reset (R95). -/
def restartNotice (cause : ResetCause) : Notice := ⟨.brokerRestarted, .none, 1, [causeCode cause], 0#16⟩

/-- An origin's records after a broker reset (R95). -/
def Records.reset (cause : ResetCause) : Records := ⟨[], 0, [restartNotice cause], 0, 0, 0⟩

/-- Port A or B after a broker reset (Table 8.1). -/
def Tw.reset : Tw where
  target := .idle
  buffer := []
  oversize := false
  slot := .empty
  pos := 0
  hold := none
  since := none
  handed := none
  out := []

/-- Port C after a broker reset (Table 9.1). -/
def PortC.reset : PortC where
  inBlock := false
  gap := none
  bits := 0
  buffer := []
  bytes := 0
  lead := none
  out := none
  slot := .empty
  discarded := false
  hold := none
  since := none
  handed := none

/-- The outputs at the release of a broker reset: C-DO high, C-READY low, the two-wire lines released and the three
attention lines low (R192, R95). -/
def Pins.reset : Pins where
  attn := ⟨.low, .low, .low⟩
  cReady := .low
  cDo := .high
  aScl := .released
  aSda := .released
  bScl := .released
  bSda := .released
  dScl := .released
  dSda := .released

/-- The outputs while nRST is low or the supply is not valid: every one released (R187, R192). -/
def Pins.released : Pins where
  attn := ⟨.released, .released, .released⟩
  cReady := .released
  cDo := .released
  aScl := .released
  aSda := .released
  bScl := .released
  bSda := .released
  dScl := .released
  dSda := .released

/-- The part at the release of a broker reset (R188), with the commands that still wait outside. -/
def State.atRelease (cause : ResetCause) (adsel : Nat) (scl sda : Bool) (pending : List Instr) : State where
  resetting := none
  cause := cause
  adsel := adsel
  time := 0#16
  settings := Settings.default
  queue := Queue.reset
  engine := Engine.reset
  monitor := Monitor.reset scl sda
  leases := []
  mirror := List.replicate Config.maxEntries none
  dueMarks := []
  records := ⟨Records.reset cause, Records.reset cause, Records.reset cause⟩
  portA := Tw.reset
  portB := Tw.reset
  portC := PortC.reset
  pins := Pins.reset
  pending := pending

/-- The part at the release of a power-on reset, with no straps fitted (R192) and both D-bus lines high: DESIGN
CHOICE, unsafe, log 6. -/
def State.reset : State := State.atRelease .powerOn 0 true true []

end Sys2Proof.Machine
end

