-- ==== Sys2Proof/Machine/Ops.lean ====
section
/-! DEFINITION. The accessors every block's operations go through, the settings as the blocks read them, the timers'
counts, and the arrival of a notice at an origin's records. -/

namespace Sys2Proof.Machine

/-! ### One value for each origin -/

/-- The value of direct origin `o`. -/
def PerDirect.get {α : Type} (x : PerDirect α) (o : Direct) : α :=
  match o with
  | .a => x.a
  | .b => x.b
  | .c => x.c

/-- `x` with the value of direct origin `o` replaced. -/
def PerDirect.set {α : Type} (x : PerDirect α) (o : Direct) (v : α) : PerDirect α :=
  match o with
  | .a => { x with a := v }
  | .b => { x with b := v }
  | .c => { x with c := v }

/-- The value of origin `o`. -/
def PerOrigin.get {α : Type} (x : PerOrigin α) (o : Origin) : α :=
  match o with
  | .a => x.a
  | .b => x.b
  | .c => x.c
  | .p => x.p

/-- `x` with the value of origin `o` replaced. -/
def PerOrigin.set {α : Type} (x : PerOrigin α) (o : Origin) (v : α) : PerOrigin α :=
  match o with
  | .a => { x with a := v }
  | .b => { x with b := v }
  | .c => { x with c := v }
  | .p => { x with p := v }

/-- A direct origin as an origin. -/
def directOrigin : Direct → Origin
  | .a => .a
  | .b => .b
  | .c => .c

/-- The direct origin that an origin is; none for P. -/
def originDirect : Origin → Option Direct
  | .a => some .a
  | .b => some .b
  | .c => some .c
  | .p => none

/-- The origin a two-wire port fixes (R133). -/
def portOrigin : TwPort → Direct
  | .a => .a
  | .b => .b

/-- Byte `k` of a per-origin setting, in the order A, B, C, P (R177). -/
def originIndex : Origin → Nat
  | .a => 0
  | .b => 1
  | .c => 2
  | .p => 3

/-- Byte `k` of a per-origin setting, in the order A, B, C (R177). -/
def directIndex : Direct → Nat
  | .a => 0
  | .b => 1
  | .c => 2

/-! ### The fields of State -/

def State.setTime (s : State) (t : Time) : State := { s with time := t }
def State.setSettings (s : State) (x : Settings) : State := { s with settings := x }
def State.setQueue (s : State) (q : Queue) : State := { s with queue := q }
def State.setEngine (s : State) (e : Engine) : State := { s with engine := e }
def State.setMonitor (s : State) (m : Monitor) : State := { s with monitor := m }
def State.setLeases (s : State) (l : List Lease) : State := { s with leases := l }
def State.setMirror (s : State) (m : List (Option Entry)) : State := { s with mirror := m }
def State.setDueMarks (s : State) (d : List DueMark) : State := { s with dueMarks := d }
def State.setRecords (s : State) (r : PerDirect Records) : State := { s with records := r }
def State.setPortC (s : State) (p : PortC) : State := { s with portC := p }
def State.setPins (s : State) (p : Pins) : State := { s with pins := p }
def State.setPending (s : State) (p : List Instr) : State := { s with pending := p }

/-- The state of a two-wire port. -/
def State.tw (s : State) (p : TwPort) : Tw :=
  match p with
  | .a => s.portA
  | .b => s.portB

/-- `s` with the state of a two-wire port replaced. -/
def State.setTw (s : State) (p : TwPort) (x : Tw) : State :=
  match p with
  | .a => { s with portA := x }
  | .b => { s with portB := x }

/-- The records of a direct origin. -/
def State.recOf (s : State) (o : Direct) : Records := s.records.get o

/-- `s` with the records of a direct origin replaced. -/
def State.setRec (s : State) (o : Direct) (r : Records) : State := s.setRecords (s.records.set o r)

/-- The entry of that index; none when it is EMPTY or there is no such index. -/
def State.entry (s : State) (i : Nat) : Option Entry := (s.mirror[i]?).join

/-- `s` with the entry of that index replaced; none makes it EMPTY. -/
def State.setEntry (s : State) (i : Nat) (e : Option Entry) : State := s.setMirror (s.mirror.set i e)

/-! ### The settings as the blocks read them (Table 10.1) -/

/-- Setting 0 as the engine and the monitor read it. -/
def Settings.busRate (x : Settings) : Rate := if x.rate = 400#32 then .khz400 else .khz100

/-- An origin's part of setting 8. -/
def Settings.quota (x : Settings) (o : Origin) : Nat := (fieldByte x.quotas (originIndex o)).toNat

/-- An origin's part of setting 9. -/
def Settings.weight (x : Settings) (o : Origin) : Nat := (fieldByte x.weights (originIndex o)).toNat

/-- A direct origin's part of setting 10. -/
def Settings.holdLimit (x : Settings) (o : Direct) : Nat := (fieldByte x.holdLimits (directIndex o)).toNat

/-- A direct origin's part of setting 11. -/
def Settings.attentionOn (x : Settings) (o : Direct) : Bool := fieldByte x.attention (directIndex o) == 1#8

/-! ### Counts and targets on the broker time (R57, R184) -/

/-- A count of length `n` that begins now. -/
def startCount (n : Nat) : Count := ⟨n, 0⟩

/-- A count of N ms has run out at the (N + 1)th change of the broker time after it began (R57). -/
def Count.expired (c : Count) : Bool := c.limit + 1 ≤ c.changes

/-- A running count has run out. -/
def ranOut (c : Option Count) : Bool :=
  match c with
  | some c => c.expired
  | none => false

/-- One change of the broker time reaches a count. -/
def Count.tick (c : Count) : Count := { c with changes := c.changes + 1 }

/-- The target that many ms from now, modulo 65536 (R184). -/
def State.after (s : State) (ms : Nat) : Time := s.time + BitVec.ofNat 16 ms

/-! ### Codes (Table 11.2) -/

def Kind.code : Kind → Nat
  | .probe => 0
  | .write => 1
  | .read => 2
  | .writeRead => 3

def Result.code : Result → Nat
  | .done => 0
  | .noDevice => 1
  | .dataNack => 2
  | .arbLost => 3
  | .stretchTimeout => 4
  | .transactionTimeout => 5
  | .misplacedCondition => 6
  | .expired => 7
  | .cancelled => 8

def NoticeKind.code : NoticeKind → Nat
  | .valueChanged => 1
  | .limitCrossed => 2
  | .entryFault => 3
  | .entryRecovered => 4
  | .entryDropped => 5
  | .leaseEnded => 6
  | .busStuck => 7
  | .busRecovered => 8
  | .settingChanged => 9
  | .brokerRestarted => 10

def EntryStatus.code : EntryStatus → Nat
  | .pendingFirst => 1
  | .fresh => 2
  | .stale => 3
  | .fault => 4

def RangeState.code : RangeState → Nat
  | .inRange => 0
  | .below => 1
  | .above => 2

def EngineState.code : EngineState → Nat
  | .idle => 0
  | .address => 1
  | .write => 2
  | .restart => 3
  | .read => 4
  | .stopping => 5
  | .backoff => 6
  | .recovery => 7
  | .stuck => 8

def MonitorState.code : MonitorState → Nat
  | .unknown => 0
  | .free => 1
  | .busyOwn => 2
  | .busyForeign => 3

/-- A usable device address, 0x08 to 0x77 (0.6). -/
def usableAddress (a : Byte) : Bool := 0x08 ≤ a.toNat && a.toNat ≤ 0x77

/-! ### Notices (R85 to R87) -/

/-- A count that stops at 255 (R85, R88). -/
def countUp (n : Nat) : Nat := min (n + 1) Config.maxCount

/-- Case 1 of R87 on the undelivered notices: the first of the same kind and subject takes the arrival; none where
there is no such notice. -/
def mergeNotice (kind : NoticeKind) (subject : Subject) (value : List Byte) (now : Time) :
    List Notice → Option (List Notice)
  | [] => none
  | n :: ns =>
    if n.kind = kind ∧ n.subject = subject then
      some ({ n with count := countUp n.count, value := value, time := now } :: ns)
    else (mergeNotice kind subject value now ns).map (n :: ·)

/-- The arrival of a notice at an origin's records: merged, appended or lost (R87). -/
def Records.arrive (r : Records) (kind : NoticeKind) (subject : Subject) (value : List Byte) (now : Time) :
    Records :=
  match mergeNotice kind subject value now (r.notices.drop r.e) with
  | some undelivered => { r with notices := r.notices.take r.e ++ undelivered }
  | none =>
    if r.notices.length < Config.maxNotices then
      { r with notices := r.notices ++ [⟨kind, subject, 1, value, now⟩] }
    else { r with lost := countUp r.lost }

/-- A producer hands a notice to one origin's records (R86). -/
def State.notify (s : State) (o : Direct) (kind : NoticeKind) (subject : Subject) (value : List Byte) : State :=
  s.setRec o ((s.recOf o).arrive kind subject value s.time)

/-- A producer hands a notice to one origin's records if that origin is meant. -/
def State.notifyIf (s : State) (meant : Bool) (o : Direct) (kind : NoticeKind) (subject : Subject)
    (value : List Byte) : State :=
  if meant then s.notify o kind subject value else s

/-- A producer hands a notice to each origin it names. The origins' lists are apart, so their order is of no effect
(R86). -/
def State.notifyEach (s : State) (meant : PerDirect Bool) (kind : NoticeKind) (subject : Subject)
    (value : List Byte) : State :=
  ((s.notifyIf meant.a .a kind subject value).notifyIf meant.b .b kind subject value).notifyIf meant.c .c kind subject value

/-- Every direct origin but `o`. -/
def othersThan (o : Direct) : PerDirect Bool := PerDirect.set ⟨true, true, true⟩ o false

end Sys2Proof.Machine
end

