-- ==== Sys2Proof/Machine/Flags.lean ====
section
/-! DEFINITION. The outputs the part drives, as functions of its state (R91, R172, R157, R162, R29). Each command
that is taken sets them anew at its end (`State.settle`, log 21). -/

namespace Sys2Proof.Machine

/-- An origin's records hold something it has not been given (R91). -/
def Records.holdsNews (r : Records) : Bool :=
  r.d < r.ring.length || r.e < r.notices.length || r.reported < r.lost

/-- An origin's attention line: low while its enable setting is on and its records hold something new (R91). -/
def State.attention (s : State) (o : Direct) : Drive :=
  if s.settings.attentionOn o && (s.recOf o).holdsNews then .low else .released

/-- A slot holds a response. -/
def Slot.isReady : Slot → Bool
  | .ready _ => true
  | _ => false

/-- C-READY: high while the pending slot is READY and no block is in progress (R172). -/
def PortC.ready (p : PortC) : Level := if p.slot.isReady && !p.inBlock then .high else .low

/-- A held clock: low in HOLD (R157). -/
def Tw.sclDrive (p : Tw) : Drive := if p.target = .hold then .low else .released

/-- The byte the port sends after so many more: the frame's at the read position, then 0xFF (R154, R156). -/
def Tw.byteAfter (p : Tw) (sent : Nat) : Byte := p.out.getD (p.pos + sent) 0xFF#8

/-- The next byte the port sends in a read (R154, R156). -/
def Tw.nextByte (p : Tw) : Byte := p.byteAfter 0

/-- The port acknowledges a byte of a write transfer: the first 39 (R149). -/
def acksByte (taken : Nat) : Bool := taken < Config.maxBuffer

/-- A bit of a byte on an upstream bus, most significant first, is a 0 (0.6). -/
def bitIsZero (byte : Byte) (bit : Nat) : Bool := !byte.getLsbD (7 - bit)

/-- The drive of the data line in a bit of a transfer's byte (0 to 7, and 8 the acknowledge bit), after so many bytes of
the transfer (R147): in SEND the byte's 0 bits, in RECEIVE the ACK of R149 (an address byte's is `Tw.addressAck`). -/
def Tw.sdaIn (p : Tw) (before bit : Nat) : Drive :=
  match p.target with
  | .send => if bit < 8 ∧ bitIsZero (p.byteAfter before) bit then .low else .released
  | .receive => if bit = 8 ∧ acksByte before then .low else .released
  | .idle | .address | .hold | .ignore => .released

/-- The data line as it is shown: at the first bit of the next byte (log 22). -/
def Tw.sdaDrive (p : Tw) : Drive := p.sdaIn 0 0

/-- Byte n of a block on C-DO, byte 0 the lead byte: then the output frame and 0xFF, or the lead byte again (R166,
R167). -/
def PortC.sentByte (p : PortC) (n : Nat) : Byte :=
  match n, p.out with
  | n + 1, some frame => frame.getD n 0xFF#8
  | _, _ => p.lead.getD 0xFF#8

/-- The level of C-DO in a bit (0 to 7, most significant first) of byte n of a block; high between blocks (R162). -/
def PortC.doIn (p : PortC) (n bit : Nat) : Level :=
  if p.inBlock ∧ bitIsZero (p.sentByte n) bit then .low else .high

/-- C-DO as it is shown: at the place the block's counts stand at, its first bit in every block (log 22). -/
def PortC.doLevel (p : PortC) : Level := p.doIn p.bytes p.bits

/-- The outputs as the state gives them; every one released in a broker reset (R187). -/
def State.outputs (s : State) : Pins :=
  match s.resetting with
  | some _ => Pins.released
  | none =>
    { attn := ⟨s.attention .a, s.attention .b, s.attention .c⟩
      cReady := s.portC.ready
      cDo := s.portC.doLevel
      aScl := s.portA.sclDrive
      aSda := s.portA.sdaDrive
      bScl := s.portB.sclDrive
      bSda := s.portB.sdaDrive
      dScl := s.engine.sclDrive
      dSda := s.engine.sdaDrive }

/-- The outputs set anew. -/
def State.settle (s : State) : State := s.setPins s.outputs

end Sys2Proof.Machine
end

