-- ==== Sys2Proof/Machine/Operands.lean ====
section
/-! DEFINITION. The operand forms: how the parameters of a request are read (R141, R190) and how every payload and
record is laid out (R191, Tables 11.3 to 11.7). -/

namespace Sys2Proof.Machine

/-! ### The parameters of SUBMIT and TRANSACT (R141, R2, R5) -/

/-- The kind code of the kind and flags byte, its three least significant bits (R141). -/
def kindOf (kindFlags : Byte) : Option Kind :=
  match kindFlags.toNat % 8 with
  | 0 => some .probe
  | 1 => some .write
  | 2 => some .read
  | 3 => some .writeRead
  | _ => none

/-- Bits 3 to 6 of the kind and flags byte are clear (R5 check 2, R141). -/
def kindFlagsRight (kindFlags : Byte) : Bool := kindFlags.toNat / 8 % 16 = 0

/-- The lengths fit the kind (Table 1.2). -/
def lengthsFit (kind : Kind) (writeLen readLen : Nat) : Bool :=
  match kind with
  | .probe => writeLen = 0 && readLen = 0
  | .write => 1 ≤ writeLen && writeLen ≤ 32 && readLen = 0
  | .read => writeLen = 0 && 1 ≤ readLen && readLen ≤ 32
  | .writeRead => 1 ≤ writeLen && writeLen ≤ 32 && 1 ≤ readLen && readLen ≤ 32

/-- What an admission request asks for (R5); `limit` is the queue limit in ms. -/
structure Request where
  kind : Kind
  addr : Byte
  wdata : List Byte
  rlen : Nat
  noRetry : Bool
  limit : Nat
  deriving DecidableEq, Repr

/-- The queue limit in ms: the request's value in 10 ms units, or the default queue limit where it is 0 (R6). -/
def queueLimitMs (limit : Byte) (default : Field) : Nat := (if limit = 0#8 then default.toNat else limit.toNat) * 10

/-- Checks 1 to 4 of R5, in order. -/
def unpack (kindFlags addr limit readLen : Byte) (data : List Byte) (default : Field) : Except Status Request :=
  match kindOf kindFlags with
  | none => .error .badParam
  | some kind =>
    if !kindFlagsRight kindFlags then .error .badParam
    else if !usableAddress addr then .error .badAddress
    else if !lengthsFit kind data.length readLen.toNat then .error .badParam
    else .ok ⟨kind, addr, data, readLen.toNat, kindFlags.msb, queueLimitMs limit default⟩

/-! ### Records and notices (Tables 11.3 and 11.4) -/

/-- The byte of kind, retries and LEASE_ENDED flag (Table 11.3 offset 1). -/
def Record.flagByte (r : Record) : Byte :=
  byteOf (r.kind.code + 16 * r.retries + if r.leaseEnded then 128 else 0)

/-- A completion record (Table 11.3). -/
def Record.layout (r : Record) : List Byte :=
  [byteOf r.number, r.flagByte, r.addr, byteOf r.result.code, byteOf r.acked, byteOf r.data.length]
    ++ bytes16 r.submit ++ bytes16 r.finish ++ r.data

/-- The length of a record on the wire: 10 bytes plus its read data (R77). -/
def Record.size (r : Record) : Nat := 10 + r.data.length

/-- The subject byte (R191: 0 for a kind without a subject). -/
def Subject.byte : Subject → Byte
  | .none => 0#8
  | .entry i => byteOf i
  | .device a => a
  | .setting n => byteOf n

/-- A notice (Table 11.4). -/
def Notice.layout (n : Notice) : List Byte :=
  [byteOf n.kind.code, n.subject.byte, byteOf n.count, byteOf n.value.length]
    ++ (n.value ++ List.replicate (4 - n.value.length) 0#8) ++ bytes16 n.time

/-! ### MIRROR READ items (Table 11.5, R117) -/

/-- The item of one index. -/
def itemLayout (e : Option Entry) : List Byte :=
  match e with
  | none => 0#8 :: bytes16 0xFFFF#16 ++ [0#8]
  | some e =>
    match e.value with
    | none => byteOf e.status.code :: bytes16 0xFFFF#16 ++ [0#8]
    | some v => byteOf e.status.code :: bytes16 (BitVec.ofNat 16 e.age) ++ byteOf e.width :: v

/-! ### Codes of origins -/

/-- The holder in a HELD answer (Table 11.2). -/
def directCode : Direct → Byte
  | .a => 0#8
  | .b => 1#8
  | .c => 2#8

end Sys2Proof.Machine
end

