-- ==== Sys2Proof/Machine/Slots.lean ====
section
/-! DEFINITION. The ports' response slots (R152, R153, R168), and what every command of a controller shares: the
owner takes it once, and its answer makes the slot READY (R139). -/

namespace Sys2Proof.Machine

/-! ### Reading a port by its origin -/

/-- The slot of the port of a direct origin. -/
def State.slotOf (s : State) (o : Direct) : Slot :=
  match o with
  | .a => s.portA.slot
  | .b => s.portB.slot
  | .c => s.portC.slot

/-- The command the port of a direct origin has handed to its owner, if it has not been taken. -/
def State.handedOf (s : State) (o : Direct) : Option Instr :=
  match o with
  | .a => s.portA.handed
  | .b => s.portB.handed
  | .c => s.portC.handed

/-! ### The slot becomes READY (R152, R157, R159, R168) -/

/-- A two-wire port's slot becomes READY: the hold count stops, and a read in HOLD goes on in SEND from byte 0 (R157). -/
def Tw.makeReady (p : Tw) (frame : List Byte) : Tw :=
  if p.target = .hold then
    { p with
      slot := .ready frame, hold := none, since := none, handed := none, target := .send, pos := 0, out := frame }
  else { p with slot := .ready frame, hold := none, since := none, handed := none }

/-- Port C's slot becomes READY and its hold count stops (R168, R173). -/
def PortC.makeReady (p : PortC) (frame : List Byte) : PortC :=
  { p with slot := .ready frame, hold := none, since := none, handed := none }

/-- The slot of an origin's port becomes READY with a response frame. -/
def State.putReady (s : State) (o : Direct) (frame : List Byte) : State :=
  match o with
  | .a => s.setTw .a (s.portA.makeReady frame)
  | .b => s.setTw .b (s.portB.makeReady frame)
  | .c => s.setPortC (s.portC.makeReady frame)

/-! ### The slot becomes WAITING (R143, R152, R153, R168, R173) -/

/-- A two-wire port's slot becomes WAITING for the frame just handed over. -/
def Tw.await (p : Tw) (handed : Option Instr) : Tw :=
  { p with slot := .waiting, hold := none, since := none, handed := handed }

/-- Port C's slot becomes WAITING for the frame just handed over; a TRANSACT's hold count is measured from here, the end
of the request block (R143, R173). -/
def PortC.await (p : PortC) (handed : Option Instr) : PortC :=
  { p with slot := .waiting, hold := none, since := some 0, handed := handed }

/-- A hold count with the limit read at the admission, counted from where `since` began (R143, log 15). -/
def countSince (since : Option Nat) (limit : Nat) : Count := ⟨limit, since.getD 0⟩

/-- A two-wire port waits on a TRANSACT's ticket. The hold count is started by a read (R152, R158); where one is in HOLD
already, it counts from the start of that read (R143). -/
def Tw.awaitTicket (p : Tw) (number limit : Nat) : Tw :=
  { p with
    slot := .onTicket number limit
    hold := if p.target = .hold then some (countSince p.since limit) else none
    since := none
    handed := none }

/-- Port C waits on a TRANSACT's ticket, with its hold count from the end of the request block (R143, R173). -/
def PortC.awaitTicket (p : PortC) (number limit : Nat) : PortC :=
  { p with slot := .onTicket number limit, hold := some (countSince p.since limit), since := none, handed := none }

/-- An origin's port waits on a TRANSACT's ticket, with the hold limit as it stands (R143, R152, R173). -/
def State.awaitTicket (s : State) (o : Direct) (number : Nat) : State :=
  match o with
  | .a => s.setTw .a (s.portA.awaitTicket number (s.settings.holdLimit .a))
  | .b => s.setTw .b (s.portB.awaitTicket number (s.settings.holdLimit .b))
  | .c => s.setPortC (s.portC.awaitTicket number (s.settings.holdLimit .c))

/-- A ticket is no longer waited on if it has that number. -/
def Ticket.unwait (t : Ticket) (number : Nat) : Ticket := if t.number = number then { t with waited := false } else t

/-- The queue is told that an origin's ticket of that number is no longer waited on (R153, R158, R173). -/
def Queue.unwait (q : Queue) (o : Direct) (number : Nat) : Queue :=
  { q with
    queued := q.queued.set (directOrigin o) ((q.queued.get (directOrigin o)).map (·.unwait number))
    active := q.active.map fun t => if t.origin = directOrigin o then t.unwait number else t }

/-- The port of an origin stops waiting on a TRANSACT's ticket, if it waits on one (R153). -/
def State.stopWaiting (s : State) (o : Direct) : State :=
  match s.slotOf o with
  | .onTicket number _ => s.setQueue (s.queue.unwait o number)
  | _ => s

/-- A frame handed to the decoder replaces what the slot held; the slot is WAITING for its answer (R153, R168). -/
def State.replaceSlot (s : State) (o : Direct) (handed : Option Instr) : State :=
  match o with
  | .a => (s.stopWaiting .a).setTw .a (s.portA.await handed)
  | .b => (s.stopWaiting .b).setTw .b (s.portB.await handed)
  | .c => (s.stopWaiting .c).setPortC (s.portC.await handed)

/-! ### A command of a controller (R139, log 2) -/

/-- A two-wire port's target state is left, with no read in progress and the read position 0: R155's value, and the
model's choice at the end of the 0xFF tail of a response read in full (log 40). -/
def Tw.goTo (p : Tw) (t : Target) : Tw := { p with target := t, pos := 0, since := none, out := [] }

/-- What a frame that is not shown has done at its port before it is handed over: a two-wire transfer has ended with a
STOP (R150); a block has given out the slot's response, with the discarded mark (R169). -/
def State.frameUnshown (s : State) (o : Direct) : State :=
  match o with
  | .a => s.setTw .a (s.portA.goTo .idle)
  | .b => s.setTw .b (s.portB.goTo .idle)
  | .c => s.setPortC { s.portC with discarded := false }

/-- The port of an origin can have handed over a command whose frame is not shown: a two-wire port but in HOLD (no
event of its bus reaches it there, R157), Port C between blocks with no wait in its slot (R170, R174). -/
def State.portOpen (s : State) (o : Direct) : Bool :=
  match o with
  | .a => s.portA.target != .hold
  | .b => s.portB.target != .hold
  | .c =>
    match s.portC.slot with
    | .empty | .ready _ => !s.portC.inBlock
    | .waiting | .onTicket .. => false

/-- The port of an origin has handed that command to its owner (R139), outside a broker reset. -/
def State.hands (s : State) (o : Direct) (i : Instr) : Bool := s.resetting.isNone && s.handedOf o = some i

/-- The owner can take a command whose frame is not shown: none is handed over, and the port is open (log 2). -/
def State.takesUnshown (s : State) (o : Direct) : Bool :=
  s.resetting.isNone && (s.handedOf o).isNone && s.portOpen o

/-- The state once the frame of a command that is not shown has been handed over. -/
def State.withFrame (s : State) (o : Direct) (i : Instr) : State := (s.frameUnshown o).replaceSlot o (some i)

/-- An owner's answer: a status with its payload, or, for an admitted TRANSACT, the ticket the port waits on (R139,
R143). -/
inductive Reply where
  | answer (status : Status) (payload : List Byte)
  | onTicket (number : Nat)
  deriving DecidableEq, Repr

/-- A refusal: a status with M = 0 (R140). -/
def refuse (status : Status) : Reply := .answer status []

/-- The answer reaches the origin's port (R139, R143). -/
def State.reply (s : State) (o : Direct) (r : Reply) : State :=
  match r with
  | .answer status payload => s.putReady o (responseFrame status payload)
  | .onTicket number => s.awaitTicket o number

/-- The owner's act and its answer, and the outputs set anew. -/
def State.carryOut (s : State) (o : Direct) (act : State → State × Reply) : State :=
  ((act s).1.reply o (act s).2).settle

/-- A controller's command: its owner takes it from the port that has handed it over, or, where its frame is not
shown, the command stands for its frame as well; else nothing happens (log 2). -/
def command (o : Direct) (i : Instr) (act : State → State × Reply) (s : State) : Host.Outcome State Fault Refusal :=
  if s.hands o i then .next (s.carryOut o act)
  else if s.takesUnshown o then .next ((s.withFrame o i).carryOut o act)
  else .next s

/-- An event: where the part's state admits it, its effect; else it is not taken (log 1). -/
def event (possible : Bool) (effect : State) (s : State) : Host.Outcome State Fault Refusal :=
  if s.resetting.isNone && possible then .next effect.settle else .next s

end Sys2Proof.Machine
end

