-- ==== Sys2Proof/Machine/Tickets.lean ====
section
/-! DEFINITION. Tickets: counting, numbering, admission, deferral and the scheduler's choice (R3 to R9, R21 to R24). -/

namespace Sys2Proof.Machine

/-! ### The queue's orders -/

/-- An origin's QUEUED tickets, head first. -/
def State.queuedOf (s : State) (o : Origin) : List Ticket := s.queue.queued.get o

/-- `s` with an origin's QUEUED tickets replaced. -/
def State.setQueued (s : State) (o : Origin) (l : List Ticket) : State :=
  s.setQueue { s.queue with queued := s.queue.queued.set o l }

/-- `s` with the ACTIVE ticket replaced. -/
def State.setActive (s : State) (t : Option Ticket) : State := s.setQueue { s.queue with active := t }

/-- A direct origin's DONE_WAITING tickets, oldest ending first. -/
def State.waitingOf (s : State) (o : Direct) : List Ticket := s.queue.waiting.get o

/-- `s` with a direct origin's DONE_WAITING tickets replaced. -/
def State.setWaiting (s : State) (o : Direct) (l : List Ticket) : State :=
  s.setQueue { s.queue with waiting := s.queue.waiting.set o l }

/-! ### Counting (R7, Table 1.3) -/

/-- The ACTIVE ticket is counted against that origin's quota. -/
def Queue.activeCounted (q : Queue) (o : Origin) : Nat :=
  match q.active with
  | some t => if t.origin = o ∧ t.orphaned = false then 1 else 0
  | none => 0

/-- The DONE_WAITING tickets of an origin; P has none (R12). -/
def Queue.waitingCount (q : Queue) (o : Origin) : Nat :=
  match originDirect o with
  | some d => (q.waiting.get d).length
  | none => 0

/-- An origin's counted tickets (R7). -/
def Queue.counted (q : Queue) (o : Origin) : Nat := (q.queued.get o).length + q.activeCounted o + q.waitingCount o

/-- The ACTIVE ticket's place among the 24. -/
def Queue.activeCount (q : Queue) : Nat := if q.active.isSome then 1 else 0

/-- The tickets the queue holds, of all origins and states, orphans included (R5 check 5). -/
def Queue.total (q : Queue) : Nat :=
  (q.queued.a.length + q.queued.b.length + q.queued.c.length + q.queued.p.length) + q.activeCount
    + (q.waiting.a.length + q.waiting.b.length + q.waiting.c.length)

/-! ### Ticket numbers (R3) -/

/-- The number after `n`; after 255 it is 1. -/
def nextNumber (n : Nat) : Nat := if n = 255 then 1 else n + 1

/-- A number is in use for an origin while a ticket of it, in any state and orphaned or not, or a record in its ring
carries it (R3). -/
def State.numberInUse (s : State) (o : Direct) (n : Nat) : Bool :=
  (s.queuedOf (directOrigin o)).any (·.number = n)
    || s.queue.active.any (fun t => t.origin = directOrigin o && t.number = n)
    || (s.waitingOf o).any (·.number = n)
    || (s.recOf o).ring.any (·.number = n)

/-- The first number from `n` on that is not in use, tried so many times. -/
def State.firstFree (s : State) (o : Direct) (n : Nat) : Nat → Nat
  | 0 => n
  | k + 1 => if s.numberInUse o n then s.firstFree o (nextNumber n) k else n

/-- The number the next ticket of an origin is given (R3). -/
def State.ticketNumber (s : State) (o : Direct) : Nat := s.firstFree o (s.queue.counter.get o) 255

/-! ### Admission (R5, R6) -/

/-- Checks 5 and 6 of R5: the status of the refusal, or none. -/
def State.noPlace (s : State) (o : Origin) : Option Status :=
  if Config.maxTickets ≤ s.queue.total then some .refusedFull
  else if s.settings.quota o ≤ s.queue.counted o then some .refusedQuota
  else none

/-- The ticket admission makes of a request (Table 1.1). -/
def State.newTicket (s : State) (o : Origin) (number : Nat) (r : Request) : Ticket where
  number := number
  origin := o
  kind := r.kind
  addr := r.addr
  wdata := r.wdata
  rlen := r.rlen
  noRetry := r.noRetry
  deadline := s.after r.limit
  deadlineReached := false
  submit := s.time
  retries := 0
  result := none
  finish := none
  abort := false
  orphaned := false
  leaseEnded := false
  waited := false
  acked := 0
  rdata := []
  greatest := 0

/-- A ticket joins the tail of its origin's order (R6). -/
def State.enqueue (s : State) (t : Ticket) : State := s.setQueued t.origin (s.queuedOf t.origin ++ [t])

/-- Admission for a direct origin: the ticket is numbered, the counter moves past the number given, and the ticket
joins its origin's order (R3, R6). `waited` marks a TRANSACT's ticket (R143). -/
def State.admitTicket (s : State) (o : Direct) (r : Request) (waited : Bool) : State :=
  let n := s.ticketNumber o
  (s.setQueue { s.queue with counter := s.queue.counter.set o (nextNumber n) }).enqueue
    { s.newTicket (directOrigin o) n r with waited := waited }

/-! ### Deferral and the scheduler's choice (R22 to R24, R104) -/

/-- A lease defers a ticket (R23, R104): another direct origin holds its address, or, for a poll ticket, the lease
shuts polls out. -/
def Lease.defers (l : Lease) (t : Ticket) : Bool :=
  l.addr = t.addr && (if t.origin = .p then !l.polls else directOrigin l.holder != t.origin)

/-- A ticket is deferred (R23). -/
def State.deferred (s : State) (t : Ticket) : Bool := s.leases.any (·.defers t)

/-- A direct origin's eligible ticket is its head, if that is not deferred; P's is its first that is not (R22). -/
def State.eligible (s : State) (o : Origin) : Option Ticket :=
  match o with
  | .p => (s.queuedOf .p).find? (fun t => !s.deferred t)
  | _ =>
    match s.queuedOf o with
    | t :: _ => if s.deferred t then none else some t
    | [] => none

/-- The rotation: the origins after `o` in the order A, B, C, P, and `o` last (R24). -/
def rotationFrom : Origin → List Origin
  | .a => [.b, .c, .p, .a]
  | .b => [.c, .p, .a, .b]
  | .c => [.p, .a, .b, .c]
  | .p => [.a, .b, .c, .p]

/-- A choice: the origin made or left current, its credit after the choice, and the ticket (R24). -/
structure Choice where
  origin : Origin
  credit : Nat
  ticket : Ticket
  deriving DecidableEq, Repr

/-- Case 2 of R24: the first origin of the list with an eligible ticket is made current. -/
def State.rotate (s : State) : List Origin → Option Choice
  | [] => none
  | o :: os =>
    match s.eligible o with
    | some t => some ⟨o, s.settings.weight o - 1, t⟩
    | none => s.rotate os

/-- The scheduler's choice among the eligible tickets (R24); none where no origin has one. -/
def State.choose (s : State) : Option Choice :=
  match s.eligible s.queue.current with
  | some t =>
    if 0 < s.queue.credit then some ⟨s.queue.current, s.queue.credit - 1, t⟩
    else s.rotate (rotationFrom s.queue.current)
  | none => s.rotate (rotationFrom s.queue.current)

/-- A list without the first ticket of that number. -/
def without (number : Nat) : List Ticket → List Ticket
  | [] => []
  | t :: ts => if t.number = number then ts else t :: without number ts

/-- An origin's QUEUED ticket of that number. -/
def State.findQueued (s : State) (o : Origin) (number : Nat) : Option Ticket :=
  (s.queuedOf o).find? (·.number = number)

/-- An origin's QUEUED ticket of that number taken out of its order. -/
def State.dequeue (s : State) (o : Origin) (number : Nat) : State := s.setQueued o (without number (s.queuedOf o))

end Sys2Proof.Machine
end

