-- ==== Sys2Proof/Machine/Polls.lean ====
section
/-! DEFINITION. The poll engine: due marks, posts and their retries (R119 to R122), and what a poll result does to its
entry (R124 to R128). -/

namespace Sys2Proof.Machine

/-! ### Due marks (R119, R122) -/

/-- A due mark set now stands behind all set before it, but in index order among those set on the same change of the
broker time (R122). -/
def insertMark (m : DueMark) : List DueMark → List DueMark
  | [] => [m]
  | n :: ns => if m.fresh && n.fresh && m.index < n.index then m :: n :: ns else n :: insertMark m ns

/-- The entry's due mark is set. -/
def State.isDue (s : State) (i : Nat) : Bool := s.dueMarks.any (·.index = i)

/-- The entry's due mark is set, if it is not set already. -/
def State.markDue (s : State) (m : DueMark) : State :=
  if s.isDue m.index then s else s.setDueMarks (insertMark m s.dueMarks)

/-- The entry's due mark is cleared. -/
def State.clearDue (s : State) (i : Nat) : State := s.setDueMarks (s.dueMarks.filter (·.index ≠ i))

/-! ### Posting (R120 to R122) -/

/-- What a poll post asks of the queue (R120, R4). -/
def Entry.request (e : Entry) : Request where
  kind := .writeRead
  addr := e.addr
  wdata := [e.reg]
  rlen := e.width
  noRetry := false
  limit := min (e.interval * 10) Config.maxQueueLimit

/-- An admitted post: the poll ticket is at the tail of P's order, the entry is posted and its due mark clear. -/
def State.posted (s : State) (i : Nat) (e : Entry) : State :=
  ((s.enqueue (s.newTicket .p i e.request)).setEntry i (some { e with posted := true })).clearDue i

/-- A poll post for an entry: the queue's refusal, or the state with the ticket admitted (R120, R121). -/
def State.post (s : State) (i : Nat) (e : Entry) : Except Status State :=
  match s.noPlace .p with
  | some status => .error status
  | none => .ok (s.posted i e)

/-- The waiting entries of the list try their posts in turn, up to the first refusal (R122). -/
def State.postEach : List DueMark → State → State
  | [], s => s
  | m :: ms, s =>
    match s.entry m.index with
    | none => State.postEach ms s
    | some e =>
      match s.post m.index e with
      | .error _ => s
      | .ok s' => State.postEach ms s'

/-- A retry trigger: every waiting entry tries its post, the one waiting longest first (R122). -/
def State.retryPosts (s : State) : State := State.postEach s.dueMarks s

/-- The poll engine takes the due time of an entry, on the present change of the broker time or not: its due mark is set
unless a poll is posted (R119). -/
def State.takeDue (s : State) (i : Nat) (onChange : Bool) : State :=
  match s.entry i with
  | none => s
  | some e =>
    let s := s.setEntry i (some { e with dueReached := false })
    if e.posted then s else s.markDue ⟨i, onChange⟩

/-! ### Poll results (R124 to R128) -/

/-- The number the range check reads: the value's bytes, first byte least significant (R125). -/
def numberLsbFirst : List Byte → Nat
  | [] => 0
  | b :: bs => b.toNat + 256 * numberLsbFirst bs

/-- The number of a value in the entry's byte order (R125). -/
def Entry.numberOf (e : Entry) (v : List Byte) : Nat :=
  if e.msbFirst then numberLsbFirst v.reverse else numberLsbFirst v

/-- The range state of a value (R125). -/
def Entry.rangeOf (e : Entry) (v : List Byte) : RangeState :=
  if e.low.any (fun l => e.numberOf v < l) then .below
  else if e.high.any (fun h => h < e.numberOf v) then .above
  else .inRange

/-- The stale limit in ms: twice the interval, or 65534 (R129). -/
def Entry.staleLimit (e : Entry) : Nat := min (2 * (e.interval * 10)) 65534

/-- The wait after a failure in FAULT, in ms (R126). -/
def Entry.backoff (e : Entry) : Nat := min (8 * (e.interval * 10)) 60000

/-- A DONE result sends VALUE_CHANGED: no value was held, none since the definition, or a byte differs (R124). -/
def Entry.changedBy (e : Entry) (v : List Byte) : Bool :=
  e.value.isNone || e.status = .pendingFirst || e.value ≠ some v

/-- The entry after a DONE result (R124). -/
def Entry.afterDone (e : Entry) (v : List Byte) (due : Time) : Entry :=
  { e with
    status := .fresh, value := some v, age := 0, fails := 0, range := e.rangeOf v
    due := due, dueReached := false, posted := false }

/-- The fail count after a failure, stopping at 3 (R126). -/
def Entry.failsUp (e : Entry) : Nat := min (e.fails + 1) 3

/-- A failure brings the entry into FAULT (R126). -/
def Entry.entersFault (e : Entry) : Bool := e.failsUp = 3 && e.status ≠ .fault

/-- The status after a failure (R126). -/
def Entry.statusAfterFail (e : Entry) : EntryStatus := if e.entersFault then .fault else e.status

/-- The wait to the next due time after a failure, in ms (R126). -/
def Entry.waitAfterFail (e : Entry) : Nat := if e.statusAfterFail = .fault then e.backoff else e.interval * 10

/-- The entry after a failure (R126). -/
def Entry.afterFail (e : Entry) (due : Time) : Entry :=
  { e with fails := e.failsUp, status := e.statusAfterFail, due := due, dueReached := false, posted := false }

/-- The entry after a result that is neither success nor failure (R127). -/
def Entry.afterNeutral (e : Entry) (due : Time) : Entry :=
  { e with due := due, dueReached := false, posted := false }

/-- A DONE result reaches an entry: the entry, and its notices in the order of R128. -/
def State.pollDone (s : State) (i : Nat) (e : Entry) (v : List Byte) : State :=
  let s1 := s.setEntry i (some (e.afterDone v (s.after (e.interval * 10))))
  let s2 := if e.changedBy v then s1.notifyEach e.subs .valueChanged (.entry i) v else s1
  let s3 := if e.status = .fault then s2.notifyEach e.subs .entryRecovered (.entry i) [] else s2
  if e.rangeOf v ≠ e.range then s3.notifyEach e.subs .limitCrossed (.entry i) [byteOf (e.rangeOf v).code] else s3

/-- A failure reaches an entry (R126). -/
def State.pollFailed (s : State) (i : Nat) (e : Entry) : State :=
  let s1 := s.setEntry i (some (e.afterFail (s.after e.waitAfterFail)))
  if e.entersFault then s1.notifyEach e.subs .entryFault (.entry i) [] else s1

/-- A result that is neither reaches an entry (R127). -/
def State.pollNeutral (s : State) (i : Nat) (e : Entry) : State :=
  s.setEntry i (some (e.afterNeutral (s.after (e.interval * 10))))

/-- The result of a poll ticket reaches its entry (R12, R124 to R127). CANCELLED reaches no entry (6.6); it is taken
as neither success nor failure (log 17). -/
def State.pollResult (s : State) (i : Nat) (r : Result) (v : List Byte) : State :=
  match s.entry i with
  | none => s
  | some e =>
    match r with
    | .done => s.pollDone i e v
    | .noDevice | .dataNack | .stretchTimeout | .transactionTimeout => s.pollFailed i e
    | .expired | .arbLost | .misplacedCondition | .cancelled => s.pollNeutral i e

end Sys2Proof.Machine
end

