-- ==== Sys2Proof/Machine/Endings.lean ====
section
/-! DEFINITION. How a ticket ends: its outcome goes to its origin's records, to a waiting port, or to its mirror entry,
and its departure is reported to the poll engine (R10 to R15, R20, R26, R78, R159). -/

namespace Sys2Proof.Machine

/-- The record of an ended ticket (R10, R76): the bytes acknowledged are those at the end, and for ARB_LOST the
greatest count. -/
def Ticket.record (t : Ticket) (r : Result) (finish : Time) : Record where
  number := t.number
  kind := t.kind
  addr := t.addr
  result := r
  acked := if r = .arbLost then t.greatest else t.acked
  retries := t.retries
  leaseEnded := t.leaseEnded
  submit := t.submit
  finish := finish
  data := t.rdata

/-- The record a DONE_WAITING ticket becomes when it moves into the ring (R11, R79). -/
def Ticket.waitingRecord (t : Ticket) : Record := t.record (t.result.getD .done) (t.finish.getD 0#16)

/-- A ticket with its result fixed (R10). -/
def Ticket.ended (t : Ticket) (r : Result) (finish : Time) : Ticket :=
  { t with result := some r, finish := some finish, waited := false }

/-- A departure from the queue is reported to the poll engine, a retry trigger (R26, R122). -/
def State.departed (s : State) : State := s.retryPosts

/-- A record enters its origin's ring at the tail (R78). -/
def State.appendRecord (s : State) (o : Direct) (x : Record) : State :=
  s.setRec o { s.recOf o with ring := (s.recOf o).ring ++ [x] }

/-- The copy of an outcome reaches a port that still waits on that ticket; else the port drops it (R159, R173). -/
def State.deliverCopy (s : State) (o : Direct) (x : Record) : State :=
  match s.slotOf o with
  | .onTicket number _ => if number = x.number then s.putReady o (responseFrame .ok x.layout) else s
  | _ => s

/-- The outcome of a direct ticket that has left its place reaches its origin's records (R10). -/
def State.handOver (s : State) (o : Direct) (t : Ticket) (r : Result) : State :=
  let s1 := if t.waited then s.deliverCopy o (t.record r s.time) else s
  if (s1.recOf o).ring.length < Config.maxRing then (s1.appendRecord o (t.record r s.time)).departed
  else s1.setWaiting o (s1.waitingOf o ++ [t.ended r s.time])

/-- A ticket of an origin that has been taken out of QUEUED or ACTIVE ends with a result (R10, R12, R20). -/
def State.finish (s : State) (origin : Origin) (t : Ticket) (r : Result) : State :=
  if t.orphaned then s.departed
  else
    match originDirect origin with
    | some o => s.handOver o t r
    | none => (s.pollResult t.number r t.rdata).departed

/-- A ticket with its progress empty (R13, R14, R42); the greatest acknowledged count is kept. -/
def Ticket.clearProgress (t : Ticket) : Ticket := { t with acked := 0, rdata := [] }

/-- A QUEUED ticket of an origin ends: by its deadline or by a cancel (R14, R16). -/
def State.endQueued (s : State) (origin : Origin) (t : Ticket) (r : Result) : State :=
  (s.dequeue origin t.number).finish origin t.clearProgress r

/-- The ACTIVE ticket leaves the bus with a result. -/
def State.endActive (s : State) (t : Ticket) (r : Result) : State := (s.setActive none).finish t.origin t r

/-- A lost ticket returns to the head of its origin's order with one more retry (R13 case 4). -/
def State.requeue (s : State) (t : Ticket) : State :=
  s.setQueued t.origin ({ t.clearProgress with retries := t.retries + 1 } :: s.queuedOf t.origin)

/-- What the queue does with a ticket that has lost arbitration (R13). A requeued ticket whose deadline has been
reached ends EXPIRED at once (R15). -/
def State.lost (s : State) (t : Ticket) : State :=
  if t.orphaned then s.finish t.origin t .arbLost
  else if t.abort then s.finish t.origin t .cancelled
  else if t.noRetry || s.settings.retryLimit.toNat ≤ t.retries then s.finish t.origin t .arbLost
  else if t.deadlineReached then s.finish t.origin { t.clearProgress with retries := t.retries + 1 } .expired
  else s.requeue t

end Sys2Proof.Machine
end

