-- ==== Sys2Proof/Machine/Bus.lean ====
section
/-! DEFINITION. The bus monitor and the engine's place on the lines: levels and counts (R36 to R40, R57, R73), bytes
and drives (R31, R32, R35, R46), recovery (R62 to R69) and the reports of a FREE bus (R40, R50, R69). -/

namespace Sys2Proof.Machine

/-! ### Own times (Table 2.1), in 0.1 µs -/

/-- The engine's own low time. -/
def Rate.lowTime : Rate → Nat
  | .khz100 => 50
  | .khz400 => 15

/-- The engine's own high time. -/
def Rate.highTime : Rate → Nat
  | .khz100 => 50
  | .khz400 => 10

/-- The bus free time before a START. -/
def Rate.freeTime : Rate → Nat
  | .khz100 => 50
  | .khz400 => 15

/-! ### The monitor's counts -/

/-- The idle count runs while both lines are high (R38). The held-data count runs in UNKNOWN while D-SDA is low and
D-SCL high, with the stuck limit read when it begins (R73). -/
def Monitor.watch (m : Monitor) (stuckLimit : Nat) : Monitor :=
  { m with
    idle := if m.scl && m.sda then some (m.idle.getD 0) else none
    held := if m.state = .unknown ∧ m.scl ∧ !m.sda then some (m.held.getD (startCount stuckLimit)) else none }

/-- The levels of the two lines are seen. -/
def State.see (s : State) (scl sda : Bool) : State :=
  s.setMonitor (({ s.monitor with scl := scl, sda := sda }).watch s.settings.stuckLimit.toNat)

/-- The monitor takes a state; one that leaves UNKNOWN clears its held-data count (R73). -/
def State.monitorTo (s : State) (st : MonitorState) : State :=
  s.setMonitor (({ s.monitor with state := st }).watch s.settings.stuckLimit.toNat)

/-- The free-time count is started or ended (R37). -/
def State.setFreeTime (s : State) (f : Option FreeCount) : State := s.setMonitor { s.monitor with free := f }

/-- A fall of a line that is no START reaches the monitor: FREE, and the free time of a recovery STOP, become UNKNOWN
(R39, R65); the free time, which needs both lines high (R37), is at an end (log 12). -/
def State.lineFalls (s : State) : State :=
  if s.monitor.state = .free ∨ s.monitor.free.any (·.recovery) then (s.setFreeTime none).monitorTo .unknown
  else s.setFreeTime none

/-- The idle count has reached the idle-detect time as the setting stands (R38, R57). -/
def State.idleReached (s : State) : Bool := s.monitor.idle.any (fun n => s.settings.idleDetect.toNat + 1 ≤ n)

/-! ### The engine's states -/

/-- The five states in which the engine holds a ticket (R41). -/
def EngineState.inTransfer : EngineState → Bool
  | .address | .write | .restart | .read | .stopping => true
  | .idle | .backoff | .recovery | .stuck => false

/-- The engine lets go of both lines and holds no place, no result and no count. -/
def Engine.letGo (e : Engine) (st : EngineState) : Engine :=
  { e with
    state := st, bit := none, fixed := none, sclDrive := .released, sdaDrive := .released
    stretch := none, trans := none, phase := none, wait := none, retry := none }

/-- Every direct origin. -/
def allDirect : PerDirect Bool := ⟨true, true, true⟩

/-- The bus-lost mark is cleared, and A, B and C are told if it was set (R65, R69, R74). -/
def State.busBack (s : State) : State :=
  if s.engine.busLost then
    (s.setEngine { s.engine with busLost := false }).notifyEach allDirect .busRecovered .none []
  else s

/-- The engine takes the monitor's report of FREE: it leaves BACKOFF (R50) or STUCK (R69), and acts on it in no other
state (R66). -/
def State.engineHearsFree (s : State) : State :=
  match s.engine.state with
  | .backoff => s.setEngine (s.engine.letGo .idle)
  | .stuck => (s.setEngine (s.engine.letGo .idle)).busBack
  | _ => s

/-- The monitor becomes FREE; a change to FREE is reported (R37, R38, R40). -/
def State.becomeFree (s : State) : State :=
  if s.monitor.state = .free then s.setFreeTime none
  else ((s.setFreeTime none).monitorTo .free).engineHearsFree

/-- The comparison of the idle count (R38). It is not met while the engine is in a transfer (log 25). -/
def State.idleFrees (s : State) : Bool :=
  s.idleReached && s.monitor.state ≠ .free && !s.engine.state.inTransfer

/-! ### Bytes and drives (R31, R32, R35) -/

/-- The address byte: the address and the direction bit, 1 for read (R31). -/
def Ticket.addressByte (t : Ticket) (read : Bool) : Byte := (t.addr <<< 1) ||| (if read then 1#8 else 0#8)

/-- The byte the engine sends in a state: an address byte, or the next write byte (R43 to R45). -/
def Ticket.sentByte (t : Ticket) (st : EngineState) : Byte :=
  match st with
  | .address => t.addressByte (t.kind = .read)
  | .restart => t.addressByte true
  | _ => t.wdata.getD t.acked 0#8

/-- The read byte now arriving is to be acknowledged: it does not bring the count to the read length, and no abort is
requested (R46, R55). -/
def Ticket.acksNext (t : Ticket) : Bool := t.rdata.length + 1 < t.rlen && !t.abort

/-- The engine's drive of D-SDA at a place (R32, R35, R46): a 0 bit, a given ACK and the STOP pull it low. The pull that
makes a repeated START and the release that makes a STOP come after an own high time that no row ends, and are not shown
by themselves (log 43). -/
def sdaAt (st : EngineState) (t : Ticket) (bit : Option Nat) : Drive :=
  match bit with
  | none => if st = .stopping then .low else .released
  | some k =>
    match st with
    | .address | .write | .restart =>
      if k < 8 ∧ (t.sentByte st).getLsbD (7 - k) = false then .low else .released
    | .read => if 8 ≤ k ∧ t.acksNext then .low else .released
    | _ => .released

/-- The engine is in a phase with a ticket, D-SCL pulled low, at the first bit of a byte or at a condition (none); the
byte stretch count begins (R58). A released D-SDA is seen high (log 12). -/
def State.enterPhase (s : State) (st : EngineState) (bit : Option Nat) (fixed : Option Result) (t : Ticket) : State :=
  ((s.setActive (some t)).setEngine
    { s.engine with
      state := st, bit := bit, fixed := fixed, sclDrive := .low, sdaDrive := sdaAt st t bit
      stretch := some (startCount s.engine.stretchLimit) }).see false (sdaAt st t bit = .released)

/-- The engine enters STOPPING with a result fixed (R47). -/
def State.toStopping (s : State) (r : Result) (t : Ticket) : State := s.enterPhase .stopping none (some r) t

/-- A write byte was acknowledged: the count, and the greatest count if it was lower (R44). -/
def Ticket.countWrite (t : Ticket) : Ticket :=
  { t with acked := t.acked + 1, greatest := max t.greatest (t.acked + 1) }

/-- A read byte is kept (R46). -/
def Ticket.keep (t : Ticket) (byte : Byte) : Ticket := { t with rdata := t.rdata ++ [byte] }

/-- What had been sampled of a byte in progress counts (R44, R46, R60). -/
def Ticket.withCut (t : Ticket) (cut : Sampled) : Ticket :=
  match cut with
  | .nothing => t
  | .writeAck => t.countWrite
  | .readByte b => t.keep b

/-- What can have been sampled of the byte in progress in a state. A timeout between the sample and the byte boundary
counts what was sampled, as R60 says, where R61 says that the byte is not counted (log 33). -/
def cutPossible (st : EngineState) (t : Ticket) (cut : Sampled) : Bool :=
  match cut with
  | .nothing => true
  | .writeAck => st = .write && t.acked < t.wdata.length
  | .readByte _ => st = .read && t.rdata.length < t.rlen

/-- The byte the engine sends has a bit sent as 1 at its place or after it (R48): none at the device's acknowledge bit. -/
def Engine.sendsOne (e : Engine) (t : Ticket) : Bool := t.sentByte e.state <<< e.bit.getD 0 ≠ 0#8

/-- The engine gives a NACK on the read byte in progress (R48): its drive at the acknowledge bit, as set when that bit
began (log 32), or what it is to be. -/
def Engine.givesNack (e : Engine) (t : Ticket) : Bool :=
  if e.bit = some 8 then e.sdaDrive = .released else !t.acksNext

/-- The engine has a check point in the byte or condition in progress, at the place shown or later in it (R48, log 24):
a bit it sends as 1, the D-SDA high that opens a repeated START, the NACK it gives, the release that makes its STOP. -/
def Engine.checkPoint (e : Engine) (t : Ticket) (cut : Sampled) : Bool :=
  match e.state with
  | .address | .write => cut = .nothing && e.sendsOne t
  | .restart => cut = .nothing && (e.bit.isNone || e.sendsOne t)
  | .stopping => cut = .nothing
  | .read =>
    match cut with
    | .readByte _ => e.givesNack t
    | .nothing | .writeAck => false
  | .idle | .backoff | .recovery | .stuck => false

/-- The bit or condition at the engine's place is a check point that the rise of D-SCL samples (R34, R48): a bit it sends
as 1, the D-SDA high that opens a repeated START, the NACK it gives. The release that makes its STOP comes after the rise
(R35). -/
def Engine.checksAtRise (e : Engine) (t : Ticket) : Bool :=
  match e.state with
  | .address | .write | .restart =>
    match e.bit with
    | some k => k < 8 && (t.sentByte e.state).getLsbD (7 - k)
    | none => e.state = .restart
  | .read => e.bit = some 8 && e.sdaDrive = .released
  | .idle | .stopping | .backoff | .recovery | .stuck => false

/-! ### A misplaced condition (R51, R37) -/

/-- The monitor after a START that the engine did not make: BUSY_FOREIGN, no free time (R37). -/
def State.startSeen (s : State) : State := (((s.setFreeTime none).monitorTo .busyForeign)).see true false

/-- The free time of a STOP that the engine did not make: that of the rate setting as it stands (R37). -/
def State.foreignFreeTime (s : State) : FreeCount := ⟨s.settings.busRate.freeTime, false⟩

/-- A STOP that the engine did not make, seen in BUSY_OWN, leaves the monitor BUSY_FOREIGN (R37). -/
def State.foreignStop (s : State) : State :=
  if s.monitor.state = .busyOwn then s.monitorTo .busyForeign else s

/-- The monitor after a STOP that the engine did not make: the free-time count starts (R37). -/
def State.stopTaken (s : State) : State :=
  (s.foreignStop.setFreeTime (some s.foreignFreeTime)).see true true

/-- The monitor takes a condition that the engine did not make. -/
def State.condSeen (s : State) (c : Cond) : State :=
  match c with
  | .start => s.startSeen
  | .stop => s.stopTaken

/-- A misplaced condition ends the ticket on the bus: MISPLACED_CONDITION, or CANCELLED under an abort (R51). -/
def State.misplaced (s : State) (c : Cond) (cut : Sampled) (t : Ticket) : State :=
  ((s.setEngine (s.engine.letGo .idle)).condSeen c).endActive (t.withCut cut)
    (if t.abort then .cancelled else .misplacedCondition)

/-! ### Recovery (R62 to R67) -/

/-- A wait on D-SCL begins, bounded by the stuck limit of the attempt (R63, R64). -/
def Engine.startWait (e : Engine) : Engine := { e with wait := some (startCount e.stuckLimit) }

/-- The engine gives a clock pulse: it has pulled D-SCL low and released it, and waits to see it high (R64). -/
def State.beginPulse (s : State) : State :=
  (s.lineFalls.setEngine { s.engine.startWait with phase := some .pulse }).see false s.monitor.sda

/-- The engine makes the recovery STOP: both lines pulled low, D-SCL released and not yet seen high (R64). -/
def State.beginRecoveryStop (s : State) : State :=
  (s.lineFalls.setEngine { s.engine.startWait with phase := some .stop, sdaDrive := .low }).see false false

/-- With D-SCL high the engine looks at D-SDA (R64). -/
def State.lookAtData (s : State) : State := if s.monitor.sda then s.beginRecoveryStop else s.beginPulse

/-- The engine enters RECOVERY with these levels on the lines it has let go: the stuck limit is read, and the first
step waits for D-SCL if it is low (R62, R63). -/
def State.enterRecovery (s : State) (scl sda : Bool) : State :=
  let s1 := (s.setEngine
    { s.engine.letGo .recovery with stuckLimit := s.settings.stuckLimit.toNat, pulses := 0 }).see scl sda
  if scl then s1.lookAtData else s1.setEngine { s1.engine.startWait with phase := some .waitClock }

/-- The attempt fails: STUCK, with a retry count of the interval as it stands, and BUS_STUCK to A, B and C where the
bus-lost mark was clear (R67). -/
def State.enterStuck (s : State) : State :=
  let s1 := s.setEngine
    { s.engine.letGo .stuck with retry := some (startCount s.settings.retryInterval.toNat), busLost := true }
  if s.engine.busLost then s1 else s1.notifyEach allDirect .busStuck .none []

end Sys2Proof.Machine
end

