-- ==== Sys2Proof/Machine/QueueCommands.lean ====
section
/-! DEFINITION. SUBMIT, TRANSACT, CANCEL and TICKET QUERY (R5, R6, R16, R18, R141 to R143). -/

namespace Sys2Proof.Machine

/-- The admission of a request of a direct origin (R5, R6): the status of its refusal, or the state with its ticket. -/
def State.admission (s : State) (o : Direct) (req : Except Status Request) (waited : Bool) : Except Status State :=
  match req with
  | .error status => .error status
  | .ok r =>
    match s.noPlace (directOrigin o) with
    | some status => .error status
    | none => .ok (s.admitTicket o r waited)

/-- A SUBMIT (R141, R142): admitted with its number and its position, or refused. -/
def State.submit (s : State) (o : Direct) (req : Except Status Request) : State × Reply :=
  match s.admission o req false with
  | .error status => (s, refuse status)
  | .ok s' => (s', .answer .ok [byteOf (s.ticketNumber o), byteOf (s'.queuedOf (directOrigin o)).length])

/-- A TRANSACT (R143): refused as a SUBMIT is, or admitted with its port waiting on the ticket. -/
def State.transact (s : State) (o : Direct) (req : Except Status Request) : State × Reply :=
  match s.admission o req true with
  | .error status => (s, refuse status)
  | .ok s' => (s', .onTicket (s.ticketNumber o))

/-- SUBMIT (R141). -/
def execSubmit (o : Direct) (kindFlags addr limit readLen : Byte) (data : List Byte) (s : State) :
    Host.Outcome State Fault Refusal :=
  command o (.submit o kindFlags addr limit readLen data)
    (fun s => s.submit o (unpack kindFlags addr limit readLen data s.settings.queueLimit)) s

/-- TRANSACT (R143). -/
def execTransact (o : Direct) (kindFlags addr limit readLen : Byte) (data : List Byte) (s : State) :
    Host.Outcome State Fault Refusal :=
  command o (.transact o kindFlags addr limit readLen data)
    (fun s => s.transact o (unpack kindFlags addr limit readLen data s.settings.queueLimit)) s

/-- The ACTIVE ticket of an origin with that number, unless it is orphaned. -/
def State.activeOf (s : State) (o : Direct) (number : Nat) : Option Ticket :=
  s.queue.active.filter (fun t => t.origin = directOrigin o && t.number = number && !t.orphaned)

/-- A DONE_WAITING ticket of the origin carries that number. -/
def State.isWaiting (s : State) (o : Direct) (number : Nat) : Bool := (s.waitingOf o).any (·.number = number)

/-- A record of the origin's ring carries that number. -/
def State.inRing (s : State) (o : Direct) (number : Nat) : Bool := (s.recOf o).ring.any (·.number = number)

/-- A CANCEL (R16). -/
def State.cancel (s : State) (o : Direct) (number : Nat) : State × Reply :=
  if number = 0 then (s, refuse .noSuch)
  else
    match s.findQueued (directOrigin o) number with
    | some t => (s.endQueued (directOrigin o) t .cancelled, .answer .ok [])
    | none =>
      match s.activeOf o number with
      | some t => (s.setActive (some { t with abort := true }), .answer .ok [])
      | none => if s.isWaiting o number || s.inRing o number then (s, refuse .tooLate) else (s, refuse .noSuch)

/-- CANCEL (R16). -/
def execCancel (o : Direct) (number : Byte) (s : State) : Host.Outcome State Fault Refusal :=
  command o (.cancel o number) (fun s => s.cancel o number.toNat) s

/-- Table 11.2: ticket query states. -/
inductive QueryState where
  | unknown | queued | active | doneWaiting | inRing
  deriving DecidableEq, Repr

/-- Table 11.2: codes of ticket query states. -/
def QueryState.code : QueryState → Byte
  | .unknown => 0#8
  | .queued => 1#8
  | .active => 2#8
  | .doneWaiting => 3#8
  | .inRing => 4#8

/-- A ticket query answer: the state, the position if QUEUED, the flags (Table 11.6). -/
def queryPayload (q : QueryState) (position : Nat) (deferred delivered : Bool) : List Byte :=
  [q.code, byteOf position, byteOf ((if deferred then 1 else 0) + if delivered then 2 else 0)]

/-- The answer to a TICKET QUERY (R18, Table 1.5). -/
def State.ticketQuery (s : State) (o : Direct) (number : Nat) : List Byte :=
  match s.findQueued (directOrigin o) number with
  | some t =>
    queryPayload .queued ((s.queuedOf (directOrigin o)).findIdx (·.number = number) + 1) (s.deferred t) false
  | none =>
    match s.activeOf o number with
    | some _ => queryPayload .active 0 false false
    | none =>
      if s.isWaiting o number then queryPayload .doneWaiting 0 false false
      else if s.inRing o number then
        queryPayload .inRing 0 false ((s.recOf o).ring.findIdx (·.number = number) < (s.recOf o).d)
      else queryPayload .unknown 0 false false

/-- TICKET QUERY (R18). -/
def execTicketQuery (o : Direct) (number : Byte) (s : State) : Host.Outcome State Fault Refusal :=
  command o (.ticketQuery o number) (fun s => (s, .answer .ok (s.ticketQuery o number.toNat))) s

end Sys2Proof.Machine
end

