-- ==== Sys2Proof/Machine/RecordCommands.lean ====
section
/-! DEFINITION. COLLECT and NOTICES (R79 to R82, R89, R90). -/

namespace Sys2Proof.Machine

/-- How many whole records from the head fit: at most `n`, and within so many bytes (R82). -/
def packed : Nat → Nat → List Record → Nat
  | 0, _, _ => 0
  | _, _, [] => 0
  | n + 1, room, x :: xs => if x.size ≤ room then packed n (room - x.size) xs + 1 else 0

/-- Steps 1 and 2 of a COLLECT (R79, R81): the first k records are removed, and one DONE_WAITING ticket moves into the
ring for each place freed, oldest ending first. -/
def State.acknowledge (s : State) (o : Direct) (k : Nat) : State :=
  let moved := (s.waitingOf o).take k
  let s1 := (s.setRec o
      { s.recOf o with ring := (s.recOf o).ring.drop k ++ moved.map (·.waitingRecord) }).setWaiting o
    ((s.waitingOf o).drop k)
  if moved.isEmpty then s1 else s1.departed

/-- The records that a COLLECT with max n delivers from the head (R82). -/
def Records.deliverable (r : Records) (n : Nat) : Nat := packed n (Config.maxPayload - 2) r.ring

/-- The payload of a COLLECT (R82): how many records, how many results wait behind them, the records. -/
def State.collectPayload (s : State) (o : Direct) (m : Nat) : List Byte :=
  [byteOf m, byteOf ((s.recOf o).ring.length - m + (s.waitingOf o).length)]
    ++ ((s.recOf o).ring.take m).flatMap (·.layout)

/-- A COLLECT (R80, R81). -/
def State.collect (s : State) (o : Direct) (k n : Nat) : State × Reply :=
  if (s.recOf o).d < k ∨ Config.maxRing < n then (s, refuse .badParam)
  else
    let s1 := s.acknowledge o k
    let m := (s1.recOf o).deliverable n
    (s1.setRec o { s1.recOf o with d := m }, .answer .ok (s1.collectPayload o m))

/-- COLLECT (R81). -/
def execCollect (o : Direct) (ack max : Byte) (s : State) : Host.Outcome State Fault Refusal :=
  command o (.collect o ack max) (fun s => s.collect o ack.toNat max.toNat) s

/-- Steps 1 and 2 of a NOTICES (R90). -/
def Records.acknowledgeNotices (r : Records) (k : Nat) (lostSeen : Bool) : Records :=
  { r with
    notices := r.notices.drop k
    lost := if lostSeen then r.lost - r.reported else r.lost }

/-- The notices that a NOTICES with max n delivers: within 72 bytes, 10 for each after a header of 3 (R90). -/
def Records.deliverableNotices (r : Records) (n : Nat) : Nat :=
  min (min n r.notices.length) ((Config.maxPayload - 3) / 10)

/-- The payload of a NOTICES (R90). -/
def Records.noticesPayload (r : Records) (m : Nat) : List Byte :=
  [byteOf m, byteOf (r.notices.length - m), byteOf r.lost] ++ (r.notices.take m).flatMap (·.layout)

/-- Steps 3 and 4 of a NOTICES: m notices delivered, the lost count reported (R90). -/
def Records.reportNotices (r : Records) (m : Nat) : Records := { r with e := m, reported := r.lost }

/-- A NOTICES (R89, R90). -/
def State.fetchNotices (s : State) (o : Direct) (k : Nat) (lostSeen : Bool) (n : Nat) : State × Reply :=
  if (s.recOf o).e < k ∨ Config.maxNotices < n then (s, refuse .badParam)
  else
    let r := (s.recOf o).acknowledgeNotices k lostSeen
    let m := r.deliverableNotices n
    (s.setRec o (r.reportNotices m), .answer .ok (r.noticesPayload m))

/-- NOTICES (R90); bit 0 of the lost-seen byte is the flag (R190). -/
def execNotices (o : Direct) (ack lostSeen max : Byte) (s : State) : Host.Outcome State Fault Refusal :=
  command o (.notices o ack lostSeen max) (fun s => s.fetchNotices o ack.toNat (lostSeen.getLsbD 0) max.toNat) s

end Sys2Proof.Machine
end

