-- ==== Sys2Proof/Machine/LeaseCommands.lean ====
section
/-! DEFINITION. LEASE, RELEASE and the expiry of a lease (R96 to R103). -/

namespace Sys2Proof.Machine

/-- The lease on an address. -/
def State.leaseOn (s : State) (addr : Byte) : Option Lease := s.leases.find? (·.addr = addr)

/-- The leases without the one on that address. -/
def leasesWithout (addr : Byte) (l : List Lease) : List Lease := l.filter (·.addr ≠ addr)

/-- The time remaining to a lease's expiry, modulo 65536 (R184); 0 from the moment its expiry time is reached (R97). -/
def State.remaining (s : State) (l : Lease) : Time := if l.reached then 0#16 else l.expiry - s.time

/-- The lease a LEASE makes: expiry now plus the duration times 10 ms (R98, R99). -/
def State.newLease (s : State) (o : Direct) (addr : Byte) (duration : Nat) (polls : Bool) : Lease :=
  ⟨addr, o, s.after (duration * 10), false, polls⟩

/-- A granted or renewed LEASE's answer: the outcome and the time remaining (R98, R99, Table 11.6). -/
def leaseAnswer (outcome : Byte) (remaining : Time) : Reply := .answer .ok (outcome :: bytes16 remaining)

/-- A renewal replaces the lease of that address (R99). -/
def State.renew (s : State) (new : Lease) : State :=
  s.setLeases (s.leases.map fun l => if l.addr = new.addr then new else l)

/-- A grant adds a lease (R98). -/
def State.grant (s : State) (new : Lease) : State := s.setLeases (s.leases ++ [new])

/-- A LEASE (R97 to R99). -/
def State.lease (s : State) (o : Direct) (addr : Byte) (duration : Nat) (flags : Byte) : State × Reply :=
  if 1 < flags.toNat then (s, refuse .badParam)
  else if duration < 1 ∨ 500 < duration then (s, refuse .badParam)
  else if !usableAddress addr then (s, refuse .badAddress)
  else
    let new := s.newLease o addr duration (flags.getLsbD 0)
    match s.leaseOn addr with
    | some l =>
      if l.holder = o then (s.renew new, leaseAnswer 1#8 (s.remaining new))
      else (s, .answer .held (directCode l.holder :: bytes16 (s.remaining l)))
    | none =>
      if s.leases.length < Config.maxLeases then (s.grant new, leaseAnswer 0#8 (s.remaining new))
      else (s, refuse .noRoom)

/-- LEASE (R97). -/
def execLease (o : Direct) (addr : Byte) (duration : BitVec 16) (flags : Byte) (s : State) :
    Host.Outcome State Fault Refusal :=
  command o (.lease o addr duration flags) (fun s => s.lease o addr duration.toNat flags) s

/-- A RELEASE (R100). -/
def State.release (s : State) (o : Direct) (addr : Byte) : State × Reply :=
  if !usableAddress addr then (s, refuse .badAddress)
  else
    match s.leaseOn addr with
    | some l =>
      if l.holder = o then (s.setLeases (leasesWithout addr s.leases), .answer .ok []) else (s, refuse .notOwner)
    | none => (s, refuse .noSuch)

/-- RELEASE (R100). -/
def execRelease (o : Direct) (addr : Byte) (s : State) : Host.Outcome State Fault Refusal :=
  command o (.release o addr) (fun s => s.release o addr) s

/-- The expiry of a lease marks this ticket: the holder's own, to its address, and not orphaned (R102). -/
def Lease.marks (l : Lease) (t : Ticket) : Bool :=
  t.origin = directOrigin l.holder && t.addr = l.addr && !t.orphaned

/-- The lease-ended mark is set on the ACTIVE ticket that the lease covers (R102 step 2). -/
def Queue.markLeaseEnded (q : Queue) (l : Lease) : Queue :=
  { q with active := q.active.map fun t => if l.marks t then { t with leaseEnded := true } else t }

/-- A lease's expiry is taken (R102). -/
def State.expireLease (s : State) (l : Lease) : State :=
  ((s.setLeases (leasesWithout l.addr s.leases)).setQueue (s.queue.markLeaseEnded l)).notify l.holder .leaseEnded
    (.device l.addr) []

/-- LEASE_EXPIRY (R102): taken once the broker time has reached the expiry time (log 3). -/
def execLeaseExpiry (addr : Byte) (s : State) : Host.Outcome State Fault Refusal :=
  match s.leaseOn addr with
  | some l => event l.reached (s.expireLease l) s
  | none => event false s s

end Sys2Proof.Machine
end

