-- ==== Sys2Proof/Machine/MirrorCommands.lean ====
section
/-! DEFINITION. The mirror's commands and the events on its entries (R111 to R117, R119, R123, R130). -/

namespace Sys2Proof.Machine

/-! ### The entry's poll ticket goes away (R19, R113, R114) -/

/-- The queue holds a QUEUED poll ticket of that entry. -/
def State.pollQueued (s : State) (i : Nat) : Bool := (s.queuedOf .p).any (·.number = i)

/-- An ACTIVE poll ticket of that entry is orphaned without abort (R19). -/
def Queue.orphanPoll (q : Queue) (i : Nat) : Queue :=
  { q with active := q.active.map fun t => if t.origin = .p ∧ t.number = i then { t with orphaned := true } else t }

/-- The entry's poll ticket is removed if QUEUED and orphaned without abort if ACTIVE (R19). -/
def State.withdrawPoll (s : State) (i : Nat) : State :=
  if s.pollQueued i then s.dequeue .p i else s.setQueue (s.queue.orphanPoll i)

/-! ### MIRROR DEFINE (R111 to R113) -/

/-- The parameters of a MIRROR DEFINE. -/
structure Definition where
  flags : Byte
  addr : Byte
  reg : Byte
  width : Nat
  interval : Nat
  low : Field
  high : Field
  deriving DecidableEq, Repr

/-- The low limit, if its flag says it is present (R111, Table 11.1). -/
def Definition.lowLimit (p : Definition) : Option Nat := if p.flags.getLsbD 2 then some p.low.toNat else none

/-- The high limit, if its flag says it is present (R111, Table 11.1). -/
def Definition.highLimit (p : Definition) : Option Nat := if p.flags.getLsbD 3 then some p.high.toNat else none

/-- A limit that is present fits the width (R109). -/
def limitFits (width : Nat) (limit : Option Nat) : Bool := limit.all (fun n => n < 2 ^ (8 * width))

/-- Both present limits are in order (R111 check 5). -/
def limitsOrdered (low high : Option Nat) : Bool :=
  match low, high with
  | some l, some h => l ≤ h
  | _, _ => true

/-- Checks 2 to 6 of R111, in order. -/
def Definition.fault (p : Definition) : Option Status :=
  if 16 ≤ p.flags.toNat then some .badParam
  else if !(p.width = 1 || p.width = 2 || p.width = 4) then some .badParam
  else if p.interval < 1 ∨ 6000 < p.interval then some .badParam
  else if !(limitFits p.width p.lowLimit && limitFits p.width p.highLimit && limitsOrdered p.lowLimit p.highLimit) then
    some .badParam
  else if !usableAddress p.addr then some .badAddress
  else none

/-- The EMPTY entry with the lowest index. -/
def State.firstEmpty (s : State) : Option Nat := s.mirror.findIdx? (·.isNone)

/-- The subscribers after a definition: those kept, and the requester if subscribe-me is set (R112, R113). -/
def Definition.subscribers (p : Definition) (kept : PerDirect Bool) (o : Direct) : PerDirect Bool :=
  if p.flags.getLsbD 0 then kept.set o true else kept

/-- The entry a definition makes (R112). -/
def Definition.entry (p : Definition) (o : Direct) (kept : PerDirect Bool) (now : Time) : Entry where
  status := .pendingFirst
  owner := o
  addr := p.addr
  reg := p.reg
  width := p.width
  msbFirst := p.flags.getLsbD 1
  interval := p.interval
  low := p.lowLimit
  high := p.highLimit
  range := .inRange
  value := none
  age := Config.maxAge
  fails := 0
  due := now
  dueReached := true
  posted := false
  subs := p.subscribers kept o

/-- No subscriber. -/
def noneSubscribed : PerDirect Bool := ⟨false, false, false⟩

/-- The entry falls due at its definition: its due time is taken, a retry trigger (R112, R119, R122, R184; log 9). Its due
mark is set now, on no change of the broker time (log 37). -/
def State.fallsDue (s : State) (i : Nat) : State := (s.takeDue i false).retryPosts

/-- A new definition (R112). -/
def State.defineNew (s : State) (o : Direct) (i : Nat) (p : Definition) : State :=
  (s.setEntry i (some (p.entry o noneSubscribed s.time))).fallsDue i

/-- The entry of a redefinition takes the place of the old one, whose poll ticket is dealt with first (R113). -/
def State.redefined (s : State) (o : Direct) (i : Nat) (p : Definition) (old : Entry) : State :=
  (((s.withdrawPoll i).setEntry i (some (p.entry o old.subs s.time))).clearDue i)

/-- A redefinition (R113): a removed poll ticket's departure is reported (R26), and the entry falls due. -/
def State.redefine (s : State) (o : Direct) (i : Nat) (p : Definition) (old : Entry) : State :=
  let s1 := s.redefined o i p old
  (if s.pollQueued i then s1.departed else s1).fallsDue i

/-- A MIRROR DEFINE of a given index (R111 check 7). -/
def State.defineAt (s : State) (o : Direct) (i : Nat) (p : Definition) : State × Reply :=
  match s.entry i with
  | none => (s.defineNew o i p, .answer .ok [byteOf i])
  | some old =>
    if old.owner = o then (s.redefine o i p old, .answer .ok [byteOf i]) else (s, refuse .notOwner)

/-- A MIRROR DEFINE (R111). -/
def State.mirrorDefine (s : State) (o : Direct) (index : Byte) (p : Definition) : State × Reply :=
  if 31 < index.toNat ∧ index ≠ 0xFF#8 then (s, refuse .badParam)
  else
    match p.fault with
    | some status => (s, refuse status)
    | none =>
      if index = 0xFF#8 then
        match s.firstEmpty with
        | some i => (s.defineNew o i p, .answer .ok [byteOf i])
        | none => (s, refuse .noRoom)
      else s.defineAt o index.toNat p

/-- MIRROR DEFINE (R111). -/
def execMirrorDefine (o : Direct) (index flags addr reg width : Byte) (interval : BitVec 16) (low high : Field)
    (s : State) : Host.Outcome State Fault Refusal :=
  command o (.mirrorDefine o index flags addr reg width interval low high)
    (fun s => s.mirrorDefine o index ⟨flags, addr, reg, width.toNat, interval.toNat, low, high⟩) s

/-! ### MIRROR DROP (R114) -/

/-- A drop (R114): the poll ticket, the notices, and the entry EMPTY with its due mark clear; a removed ticket's
departure is reported (R26). -/
def State.dropEntry (s : State) (i : Nat) (e : Entry) : State :=
  let s1 := ((s.withdrawPoll i).notifyEach (e.subs.set e.owner false) .entryDropped (.entry i) []).setEntry i none
  if s.pollQueued i then (s1.clearDue i).departed else s1.clearDue i

/-- An entry command's first checks: the index and EMPTY (R114, R116, R123). -/
def State.onEntry (s : State) (index : Byte) (act : Entry → State × Reply) : State × Reply :=
  if 31 < index.toNat then (s, refuse .badParam)
  else
    match s.entry index.toNat with
    | none => (s, refuse .noSuch)
    | some e => act e

/-- A MIRROR DROP (R114). -/
def State.mirrorDrop (s : State) (o : Direct) (index : Byte) : State × Reply :=
  s.onEntry index fun e =>
    if e.owner = o then (s.dropEntry index.toNat e, .answer .ok []) else (s, refuse .notOwner)

/-- MIRROR DROP (R114). -/
def execMirrorDrop (o : Direct) (index : Byte) (s : State) : Host.Outcome State Fault Refusal :=
  command o (.mirrorDrop o index) (fun s => s.mirrorDrop o index) s

/-! ### MIRROR READ, SUBSCRIBE, UNSUBSCRIBE, REFRESH (R116, R117, R123) -/

/-- A MIRROR READ (R117); no index or more than 8 is the decoder's refusal. -/
def State.mirrorRead (s : State) (indices : List Byte) : Reply :=
  if !indicesFit indices then refuse .badLength
  else if indices.any (fun i => 31 < i.toNat) then refuse .badParam
  else .answer .ok (byteOf indices.length :: indices.flatMap fun i => itemLayout (s.entry i.toNat))

/-- MIRROR READ (R117). -/
def execMirrorRead (o : Direct) (indices : List Byte) (s : State) : Host.Outcome State Fault Refusal :=
  command o (.mirrorRead o indices) (fun s => (s, s.mirrorRead indices)) s

/-- An origin is made a subscriber of an entry, or is no more one (R116). -/
def State.setSubscribed (s : State) (o : Direct) (index : Byte) (on : Bool) : State × Reply :=
  s.onEntry index fun e =>
    (s.setEntry index.toNat (some { e with subs := e.subs.set o on }), .answer .ok [])

/-- SUBSCRIBE (R116). -/
def execSubscribe (o : Direct) (index : Byte) (s : State) : Host.Outcome State Fault Refusal :=
  command o (.subscribe o index) (fun s => s.setSubscribed o index true) s

/-- UNSUBSCRIBE (R116). -/
def execUnsubscribe (o : Direct) (index : Byte) (s : State) : Host.Outcome State Fault Refusal :=
  command o (.unsubscribe o index) (fun s => s.setSubscribed o index false) s

/-- A REFRESH (R123). -/
def State.refresh (s : State) (index : Byte) : State × Reply :=
  s.onEntry index fun e =>
    if e.posted then (s, .answer .ok [1#8])
    else
      match s.post index.toNat e with
      | .error status => (s, refuse status)
      | .ok s' => (s', .answer .ok [0#8])

/-- REFRESH (R123). -/
def execRefresh (o : Direct) (index : Byte) (s : State) : Host.Outcome State Fault Refusal :=
  command o (.refresh o index) (fun s => s.refresh index) s

/-! ### Due times and staleness (R119, R122, R130) -/

/-- The due time of an entry is taken if it has been reached on the change of the broker time to `due`. -/
def State.takeDueOf (due : Time) (s : State) (i : Nat) : State :=
  if (s.entry i).any (fun e => e.dueReached && e.due = due) then s.takeDue i (due = s.time) else s

/-- Every entry that has fallen due on that change of the broker time is set due, and then the waiting entries try their
posts (R119, R122; log 8), also where the due time passed without effect on its entry (log 38). -/
def State.allFallDue (s : State) (due : Time) : State :=
  ((List.range Config.maxEntries).foldl (State.takeDueOf due) s).retryPosts

/-- POLL_DUE (R119): the entry has reached its next due time; the entries that fell due with it are set due first. -/
def execPollDue (index : Nat) (s : State) : Host.Outcome State Fault Refusal :=
  match s.entry index with
  | some e => event e.dueReached (s.allFallDue e.due) s
  | none => event false s s

/-- The entry is FRESH and its age count has passed its stale limit (R130). -/
def Entry.goesStale (e : Entry) : Bool := e.status = .fresh && e.staleLimit < e.age

/-- STALENESS (R130). -/
def execStaleness (index : Nat) (s : State) : Host.Outcome State Fault Refusal :=
  match s.entry index with
  | some e => event e.goesStale (s.setEntry index (some { e with status := .stale })) s
  | none => event false s s

end Sys2Proof.Machine
end

