-- ==== Sys2Proof/Machine/SettingCommands.lean ====
section
/-! DEFINITION. SETTING READ, SETTING WRITE, STATUS, ORIGIN RESET and BUS RECOVER (R27, R71, R93, R107, R131, R176 to
R185). -/

namespace Sys2Proof.Machine

/-! ### The settings by number (R176, R177) -/

/-- The value field of a setting; none for a number above 12. -/
def Settings.get (x : Settings) (n : Nat) : Option Field :=
  match n with
  | 0 => some x.rate
  | 1 => some x.stretch
  | 2 => some x.transaction
  | 3 => some x.retryLimit
  | 4 => some x.idleDetect
  | 5 => some x.stuckLimit
  | 6 => some x.retryInterval
  | 7 => some x.queueLimit
  | 8 => some x.quotas
  | 9 => some x.weights
  | 10 => some x.holdLimits
  | 11 => some x.attention
  | 12 => some x.gap
  | _ => none

/-- The settings with the value of one replaced. -/
def Settings.set (x : Settings) (n : Nat) (v : Field) : Settings :=
  match n with
  | 0 => { x with rate := v }
  | 1 => { x with stretch := v }
  | 2 => { x with transaction := v }
  | 3 => { x with retryLimit := v }
  | 4 => { x with idleDetect := v }
  | 5 => { x with stuckLimit := v }
  | 6 => { x with retryInterval := v }
  | 7 => { x with queueLimit := v }
  | 8 => { x with quotas := v }
  | 9 => { x with weights := v }
  | 10 => { x with holdLimits := v }
  | 11 => { x with attention := v }
  | 12 => { x with gap := v }
  | _ => x

/-- A number lies between two bounds, both included. -/
def between (lo hi n : Nat) : Bool := lo ≤ n && n ≤ hi

/-- The bytes of A, B and C lie between two bounds. -/
def bytesBetween3 (lo hi : Nat) (v : Field) : Bool :=
  between lo hi (fieldByte v 0).toNat && between lo hi (fieldByte v 1).toNat && between lo hi (fieldByte v 2).toNat

/-- The bytes of A, B, C and P lie between two bounds. -/
def bytesBetween4 (lo hi : Nat) (v : Field) : Bool := bytesBetween3 lo hi v && between lo hi (fieldByte v 3).toNat

/-- The value field is in range for that setting (R177, Table 10.1). -/
def settingInRange (n : Nat) (v : Field) : Bool :=
  match n with
  | 0 => v = 100#32 || v = 400#32
  | 1 => between 1 50 v.toNat
  | 2 => between 5 200 v.toNat
  | 3 => between 0 7 v.toNat
  | 4 => between 1 50 v.toNat
  | 5 => between 10 500 v.toNat
  | 6 => between 50 2000 v.toNat
  | 7 => between 1 255 v.toNat
  | 8 => bytesBetween4 1 16 v
  | 9 => bytesBetween4 1 4 v
  | 10 => bytesBetween3 1 50 v && fieldByte v 3 = 0#8
  | 11 => bytesBetween3 0 1 v && fieldByte v 3 = 0#8
  | 12 => between 2 255 v.toNat
  | _ => false

/-! ### SETTING READ and SETTING WRITE (R178 to R181) -/

/-- The answer to a SETTING READ (R178). -/
def Settings.readReply (x : Settings) (n : Nat) : Reply :=
  match x.get n with
  | some v => .answer .ok (bytes32 v)
  | none => refuse .badParam

/-- SETTING READ (R178). -/
def execSettingRead (o : Direct) (number : Byte) (s : State) : Host.Outcome State Fault Refusal :=
  command o (.settingRead o number) (fun s => (s, s.settings.readReply number.toNat)) s

/-- A write of the value already stored tells no one; a change tells the other two origins (R180). -/
def State.tellSetting (s : State) (o : Direct) (n : Nat) (changed : Bool) : State :=
  if changed then s.notifyEach (othersThan o) .settingChanged (.setting n) [] else s

/-- A write that changes P's quota is a retry trigger (R181). -/
def State.quotaWritten (s : State) (n : Nat) (before : Settings) : State :=
  if n = 8 ∧ s.settings.quota .p ≠ before.quota .p then s.retryPosts else s

/-- A write that changes the idle-detect time reaches a count already running (R181, R38); one of the value already
stored changes nothing (R180). -/
def State.idleDetectWritten (s : State) (n : Nat) (before : Settings) : State :=
  if n = 4 ∧ s.settings.idleDetect ≠ before.idleDetect ∧ s.idleFrees then s.becomeFree else s

/-- A write that passes its checks (R179 to R181). SETTING_CHANGED goes before what the write makes the monitor report
(log 36). -/
def State.writeSetting (s : State) (o : Direct) (n : Nat) (v : Field) : State :=
  (((s.setSettings (s.settings.set n v)).tellSetting o n (s.settings.get n ≠ some v)).quotaWritten n
    s.settings).idleDetectWritten n s.settings

/-- A SETTING WRITE (R179). -/
def State.settingWrite (s : State) (o : Direct) (n : Nat) (v : Field) : State × Reply :=
  if settingInRange n v then (s.writeSetting o n v, .answer .ok []) else (s, refuse .badParam)

/-- SETTING WRITE (R179). -/
def execSettingWrite (o : Direct) (number : Byte) (value : Field) (s : State) : Host.Outcome State Fault Refusal :=
  command o (.settingWrite o number value) (fun s => s.settingWrite o number.toNat value) s

/-! ### STATUS (R182, Table 11.7) -/

/-- The defined mirror entries: those not EMPTY. -/
def State.definedEntries (s : State) : Nat := s.mirror.countP (·.isSome)

/-- The payload of a STATUS. -/
def State.statusPayload (s : State) (o : Direct) : List Byte :=
  bytes16 s.time ++
    [causeCode s.cause, byteOf s.adsel,
     byteOf (s.queue.counted .a), byteOf (s.queue.counted .b), byteOf (s.queue.counted .c), byteOf (s.queue.counted .p),
     byteOf s.queue.total, byteOf s.engine.state.code, byteOf s.monitor.state.code, byteOf s.leases.length,
     byteOf s.definedEntries, byteOf (s.recOf o).d, byteOf (s.recOf o).e, byteOf (s.recOf o).lost]

/-- STATUS (R182). -/
def execStatus (o : Direct) (s : State) : Host.Outcome State Fault Refusal :=
  command o (.status o) (fun s => (s, .answer .ok (s.statusPayload o))) s

/-! ### ORIGIN RESET (R185) -/

/-- An origin's ACTIVE ticket orphaned with abort requested, and no longer waited on (R19, R27). -/
def Ticket.orphanedBy (t : Ticket) (o : Direct) : Ticket :=
  if t.origin = directOrigin o then { t with orphaned := true, abort := true, waited := false } else t

/-- The queue without an origin's QUEUED and DONE_WAITING tickets, its ACTIVE ticket orphaned, its counter 1 (R27). -/
def Queue.originReset (q : Queue) (o : Direct) : Queue :=
  { q with
    queued := q.queued.set (directOrigin o) []
    waiting := q.waiting.set o []
    active := q.active.map (·.orphanedBy o)
    counter := q.counter.set o 1 }

/-- The origin has a ticket that its reset removes. -/
def State.hasRemovable (s : State) (o : Direct) : Bool :=
  !(s.queuedOf (directOrigin o)).isEmpty || !(s.waitingOf o).isEmpty

/-- The queue's part (R27); the removals are departures (R26). -/
def State.queueReset (s : State) (o : Direct) : State :=
  let s1 := s.setQueue (s.queue.originReset o)
  if s.hasRemovable o then s1.departed else s1

/-- The lease table's part (R107). -/
def State.leaseReset (s : State) (o : Direct) : State := s.setLeases (s.leases.filter (·.holder ≠ o))

/-- Step 1 of the mirror's part: the origin is no subscriber of any entry (R131). -/
def State.unsubscribeAll (s : State) (o : Direct) : State :=
  s.setMirror (s.mirror.map (Option.map fun e => { e with subs := e.subs.set o false }))

/-- An entry is dropped if the origin owns it (R131). -/
def State.dropOwned (o : Direct) (s : State) (i : Nat) : State :=
  match s.entry i with
  | some e => if e.owner = o then s.dropEntry i e else s
  | none => s

/-- The mirror's part (R131). The owned entries are dropped in index order, each departure a retry trigger before the
next is dropped (log 35). -/
def State.mirrorReset (s : State) (o : Direct) : State :=
  (List.range Config.maxEntries).foldl (State.dropOwned o) (s.unsubscribeAll o)

/-- An ORIGIN RESET (R185): the queue's, the lease table's and the mirror's parts (log 11), then the records'. -/
def State.originReset (s : State) (o : Direct) : State :=
  (((s.queueReset o).leaseReset o).mirrorReset o).setRec o Records.empty

/-- ORIGIN RESET (R185). -/
def execOriginReset (o : Direct) (s : State) : Host.Outcome State Fault Refusal :=
  command o (.originReset o) (fun s => (s.originReset o, .answer .ok [])) s

/-! ### BUS RECOVER (R71) -/

/-- Table 11.2: BUS RECOVER outcomes. -/
inductive RecoverOutcome where
  | free | started | inProgress
  deriving DecidableEq, Repr

/-- Table 11.2: codes of BUS RECOVER outcomes. -/
def RecoverOutcome.code : RecoverOutcome → Byte
  | .free => 0#8
  | .started => 1#8
  | .inProgress => 2#8

/-- An OK answer with a BUS RECOVER outcome. -/
def recoverAnswer (x : RecoverOutcome) : Reply := .answer .ok [x.code]

/-- The held-data count is stopped (R71, R73). -/
def State.stopHeld (s : State) : State := s.setMonitor { s.monitor with held := none }

/-- A recovery attempt begins on the lines as they are seen, the engine driving neither (R62, R68, R71, R73). -/
def State.attemptRecovery (s : State) : State := s.enterRecovery s.monitor.scl s.monitor.sda

/-- A BUS RECOVER (Table 3.2). -/
def State.busRecover (s : State) : State × Reply :=
  match s.engine.state with
  | .idle =>
    match s.monitor.state with
    | .free | .busyOwn => (s, recoverAnswer .free)
    | .unknown => (s.stopHeld.attemptRecovery, recoverAnswer .started)
    | .busyForeign => (s, refuse .busy)
  | .address | .write | .restart | .read | .stopping | .backoff => (s, refuse .busy)
  | .recovery => (s, recoverAnswer .inProgress)
  | .stuck => (s.attemptRecovery, recoverAnswer .started)

/-- BUS RECOVER (R71). -/
def execBusRecover (o : Direct) (s : State) : Host.Outcome State Fault Refusal :=
  command o (.busRecover o) (fun s => s.busRecover) s

end Sys2Proof.Machine
end

