-- ==== Sys2Proof/Machine/EngineEvents.lean ====
section
/-! DEFINITION. The start of a ticket, the ends of its bytes and of its STOP, and the ways it ends early (R24, R25, R42
to R60). -/

namespace Sys2Proof.Machine

/-! ### The start (R24, R42) -/

/-- The conditions of a choice but the ticket (R21). -/
def State.canStart (s : State) : Bool := s.engine.state = .idle && s.monitor.state = .free

/-- The queue after a choice: the ticket out of its order, the current origin and the credit as chosen (R9, R24). -/
def State.takeChoice (s : State) (c : Choice) : State :=
  let s1 := s.dequeue c.origin c.ticket.number
  s1.setQueue { s1.queue with current := c.origin, credit := c.credit }

/-- The engine records the rate and the limits as they stand, and the transaction limit begins (R9, R42, R59). -/
def Engine.recordSettings (e : Engine) (x : Settings) : Engine :=
  { e with
    rate := x.busRate, stretchLimit := x.stretch.toNat, transLimit := x.transaction.toNat
    trans := some (startCount x.transaction.toNat) }

/-- The engine starts a ticket (R42): the START is made and the first bit of the address byte begins (R35). -/
def State.startTicket (s : State) (c : Choice) : State :=
  let s1 := s.takeChoice c
  let s2 := ((s1.setEngine (s1.engine.recordSettings s1.settings)).setFreeTime none).monitorTo .busyOwn
  s2.enterPhase .address (some 0) none c.ticket.clearProgress

/-- TICKET_START (R24). -/
def execTicketStart (s : State) : Host.Outcome State Fault Refusal :=
  match s.choose with
  | some c => event s.canStart (s.startTicket c) s
  | none => event false s s

/-! ### The ends of bytes (R43 to R46, R53 to R55) -/

/-- The engine is in that state, running its ticket. -/
def State.running (s : State) (st : EngineState) : Option Ticket :=
  if s.engine.state = st then s.queue.active else none

/-- After the address byte (R43, R54, R55). -/
def State.afterAddress (s : State) (t : Ticket) (ack : Bool) : State :=
  match t.kind with
  | .read =>
    if ack then s.enterPhase .read (some 0) none t
    else s.toStopping (if t.abort then .cancelled else .noDevice) t
  | .probe => s.toStopping (if t.abort then .cancelled else if ack then .done else .noDevice) t
  | .write | .writeRead =>
    if t.abort then s.toStopping .cancelled t
    else if ack then s.enterPhase .write (some 0) none t
    else s.toStopping .noDevice t

/-- ADDRESS_BYTE_END (R43). -/
def execAddressByteEnd (ack : Bool) (s : State) : Host.Outcome State Fault Refusal :=
  match s.running .address with
  | some t => event true (s.afterAddress t ack) s
  | none => event false s s

/-- After an acknowledged write byte, with the counts raised (R44). -/
def State.afterAckedWrite (s : State) (t : Ticket) : State :=
  if t.abort then s.toStopping .cancelled t
  else if t.acked < t.wdata.length then s.enterPhase .write (some 0) none t
  else if t.kind = .writeRead then s.enterPhase .restart none none t
  else s.toStopping .done t

/-- After a write byte (R44, R54). -/
def State.afterWriteByte (s : State) (t : Ticket) (ack : Bool) : State :=
  if ack then s.afterAckedWrite t.countWrite
  else s.toStopping (if t.abort then .cancelled else .dataNack) t

/-- WRITE_BYTE_END (R44). -/
def execWriteByteEnd (ack : Bool) (s : State) : Host.Outcome State Fault Refusal :=
  match s.running .write with
  | some t => event true (s.afterWriteByte t ack) s
  | none => event false s s

/-- After the read address of a repeated START (R45, R55). -/
def State.afterRestart (s : State) (t : Ticket) (ack : Bool) : State :=
  if ack then s.enterPhase .read (some 0) none t
  else s.toStopping (if t.abort then .cancelled else .noDevice) t

/-- RESTART_END (R45). -/
def execRestartEnd (ack : Bool) (s : State) : Host.Outcome State Fault Refusal :=
  match s.running .restart with
  | some t => event true (s.afterRestart t ack) s
  | none => event false s s

/-- After a read byte, kept, and its acknowledge bit (R46, R55). An abort mark set in the acknowledge bit is acted on here
(R53), whatever the bit was driven to (log 32). -/
def State.afterReadByte (s : State) (t : Ticket) : State :=
  if t.abort then s.toStopping .cancelled t
  else if t.rdata.length < t.rlen then s.enterPhase .read (some 0) none t
  else s.toStopping .done t

/-- READ_BYTE_END (R46). -/
def execReadByteEnd (byte : Byte) (s : State) : Host.Outcome State Fault Refusal :=
  match s.running .read with
  | some t => event true (s.afterReadByte (t.keep byte)) s
  | none => event false s s

/-! ### The STOP (R47) -/

/-- The monitor after the engine's own STOP: the free time is that of the ticket's rate (R37). -/
def State.ownStop (s : State) : State := (s.see true true).setFreeTime (some ⟨s.engine.rate.freeTime, false⟩)

/-- The engine's STOP is complete and the ticket ends with the result fixed before it (R47). -/
def State.completeStop (s : State) (t : Ticket) (r : Result) : State :=
  ((s.setEngine (s.engine.letGo .idle)).ownStop).endActive t r

/-- STOP_COMPLETE (R47). -/
def execStopComplete (s : State) : Host.Outcome State Fault Refusal :=
  match s.running .stopping, s.engine.fixed with
  | some t, some r => event true (s.completeStop t r) s
  | _, _ => event false s s

/-! ### Arbitration and misplaced conditions (R48 to R51) -/

/-- The ticket of the transfer that the engine is in. -/
def State.inTransfer (s : State) : Option Ticket := if s.engine.state.inTransfer then s.queue.active else none

/-- The credit is given back and the engine holds no ticket (R25, R49). -/
def State.giveBack (s : State) : State :=
  s.setQueue { s.queue with credit := s.queue.credit + 1, active := none }

/-- Arbitration is lost (R49): the levels seen are those of the check, D-SCL high and D-SDA low. -/
def State.loseArbitration (s : State) (t : Ticket) (cut : Sampled) : State :=
  ((((s.setEngine (s.engine.letGo .backoff)).setFreeTime none).monitorTo .busyForeign).see true false).giveBack.lost
    (t.withCut cut)

/-- ARBITRATION_LOST (R49), at a check point of R48 (log 24). -/
def execArbitrationLost (cut : Sampled) (s : State) : Host.Outcome State Fault Refusal :=
  match s.inTransfer with
  | some t =>
    event (s.engine.checkPoint t cut && cutPossible s.engine.state t cut) (s.loseArbitration t cut) s
  | none => event false s s

/-- MISPLACED_CONDITION (R51). -/
def execMisplacedCondition (cond : Cond) (cut : Sampled) (s : State) : Host.Outcome State Fault Refusal :=
  match s.inTransfer with
  | some t => event (cutPossible s.engine.state t cut) (s.misplaced cond cut t) s
  | none => event false s s

/-! ### Timeouts (R60) -/

/-- A limit of the transfer has expired: the ticket ends with the progress as it stands, what had been sampled of the
byte in progress included (R60; log 33), and the engine enters RECOVERY. -/
def State.timeOut (s : State) (t : Ticket) (cut : Sampled) (r : Result) (scl sda : Bool) : State :=
  (s.endActive (t.withCut cut) r).enterRecovery scl sda

/-- STRETCH_TIMEOUT (R60). -/
def execStretchTimeout (cut : Sampled) (scl sda : Bool) (s : State) : Host.Outcome State Fault Refusal :=
  match s.inTransfer with
  | some t =>
    event (ranOut s.engine.stretch && cutPossible s.engine.state t cut)
      (s.timeOut t cut .stretchTimeout scl sda) s
  | none => event false s s

/-- TRANSACTION_TIMEOUT (R60). -/
def execTransactionTimeout (cut : Sampled) (scl sda : Bool) (s : State) : Host.Outcome State Fault Refusal :=
  match s.inTransfer with
  | some t =>
    event (ranOut s.engine.trans && cutPossible s.engine.state t cut)
      (s.timeOut t cut .transactionTimeout scl sda) s
  | none => event false s s

end Sys2Proof.Machine
end

