-- ==== Sys2Proof/Machine/RecoveryEvents.lean ====
section
/-! DEFINITION. The events of a recovery attempt and of STUCK (R63 to R68). -/

namespace Sys2Proof.Machine

/-- The engine is in that part of a recovery attempt. -/
def State.recovering (s : State) (p : RecoveryPhase) : Bool := s.engine.state = .recovery && s.engine.phase = some p

/-- The wait count of recovery stops. -/
def State.stopWait (s : State) : State := s.setEngine { s.engine with wait := none }

/-- RECOVERY_CLOCK_RISE (R63): D-SCL is high, and the engine looks at D-SDA (R64). -/
def execRecoveryClockRise (sda : Bool) (s : State) : Host.Outcome State Fault Refusal :=
  event (s.recovering .waitClock) ((s.stopWait.see true sda).lookAtData) s

/-- A pulse is counted (R64). -/
def State.countPulse (s : State) : State := s.setEngine { s.engine with pulses := s.engine.pulses + 1, wait := none }

/-- After a pulse's sample (R64): the recovery STOP, the next pulse, or failure at nine. -/
def State.afterPulse (s : State) (sda : Bool) : State :=
  if sda then s.beginRecoveryStop
  else if s.engine.pulses < 9 then s.beginPulse
  else s.enterStuck

/-- RECOVERY_PULSE (R64). The pulse's pull of D-SCL comes before its sample, after whatever was seen in the high phase
before it (log 12). -/
def execRecoveryPulse (sda : Bool) (s : State) : Host.Outcome State Fault Refusal :=
  event (s.recovering .pulse) ((s.lineFalls.countPulse.see true sda).afterPulse sda) s

/-- The levels seen once both lines are released: in the recovery STOP the engine has pulled D-SDA low itself, and it
is seen high (log 27). -/
def State.seeReleased (s : State) : State := if s.engine.phase = some .stop then s.see s.monitor.scl true else s

/-- STUCK_LIMIT_EXPIRY (R63, R64): the wait for D-SCL has run out and the attempt has failed. -/
def execStuckLimitExpiry (s : State) : Host.Outcome State Fault Refusal :=
  event (s.engine.state = .recovery && ranOut s.engine.wait) s.seeReleased.enterStuck s

/-- The recovery STOP is complete (R65): the free time is 5 µs (R62), and the bus-lost mark is answered. -/
def State.completeRecovery (s : State) : State :=
  (((s.setEngine (s.engine.letGo .idle)).see true true).setFreeTime (some ⟨Rate.freeTime .khz100, true⟩)).busBack

/-- RECOVERY_STOP_COMPLETE (R65). -/
def execRecoveryStopComplete (s : State) : Host.Outcome State Fault Refusal :=
  event (s.recovering .stop) s.completeRecovery s

/-- RECOVERY_STOP_FAIL (R64). -/
def execRecoveryStopFail (s : State) : Host.Outcome State Fault Refusal :=
  event (s.recovering .stop) (s.see true false).enterStuck s

/-- RETRY_COUNT_EXPIRY (R68). -/
def execRetryCountExpiry (s : State) : Host.Outcome State Fault Refusal :=
  event (s.engine.state = .stuck && ranOut s.engine.retry) s.attemptRecovery s

end Sys2Proof.Machine
end

