-- ==== Sys2Proof/Machine/MonitorEvents.lean ====
section
/-! DEFINITION. What the bus monitor sees: conditions of other parties, the free time, idle detection, falls in FREE,
the held-data count, and the changes of the two lines (R33, R37 to R40, R52, R73). -/

namespace Sys2Proof.Machine

/-! ### Conditions, free time, idle detection (R37, R38) -/

/-- A condition that the engine did not make: misplaced in its transfer (R51; log 13), else the monitor's alone. -/
def State.foreignCondition (s : State) (c : Cond) : State :=
  match s.inTransfer with
  | some t => s.misplaced c .nothing t
  | none => s.condSeen c

/-- FOREIGN_START (R37). -/
def execForeignStart (s : State) : Host.Outcome State Fault Refusal := event true (s.foreignCondition .start) s

/-- STOP_SEEN (R37). -/
def execStopSeen (s : State) : Host.Outcome State Fault Refusal := event true (s.foreignCondition .stop) s

/-- BUS_FREE_TIME_PASSED (R37). -/
def execBusFreeTimePassed (s : State) : Host.Outcome State Fault Refusal :=
  event s.monitor.free.isSome s.becomeFree s

/-- IDLE_DETECT (R38). -/
def execIdleDetect (s : State) : Host.Outcome State Fault Refusal := event s.idleFrees s.becomeFree s

/-! ### Falls in FREE, held data (R39, R73) -/

/-- The levels after a fall in FREE that is no START: a fall of D-SCL, or of D-SDA with D-SCL low. -/
def State.seeFall (s : State) (line : BusLine) : State :=
  match line with
  | .scl => s.see false s.monitor.sda
  | .sda => s.see false false

/-- LINE_FALL_IN_FREE (R39). -/
def execLineFallInFree (line : BusLine) (s : State) : Host.Outcome State Fault Refusal :=
  event (s.monitor.state = .free) (s.lineFalls.seeFall line) s

/-- The held-data count has expired (R73): an IDLE engine is handed the bus, with D-SCL high and D-SDA low. -/
def State.heldDataExpires (s : State) : State :=
  if s.engine.state = .idle then s.stopHeld.enterRecovery true false else s.stopHeld

/-- HELD_DATA_EXPIRY (R73). -/
def execHeldDataExpiry (s : State) : Host.Outcome State Fault Refusal :=
  event (ranOut s.monitor.held) s.heldDataExpires s

/-! ### Changes of the lines that are no condition (R33, R38, R73) -/

/-- In recovery the rise of D-SCL that a wait or a pulse is for is a command of its own (R63, R64). -/
def Engine.awaitsRise (e : Engine) : Bool :=
  e.state = .recovery && (e.phase = some .waitClock || e.phase = some .pulse)

/-- The fall of D-SCL that ends the ninth pulse of a byte is a command of its own (R53). -/
def Engine.atNinth (e : Engine) : Bool := e.state.inTransfer && e.bit = some 8

/-- A rise of D-SCL now is the check of R48, and D-SDA is low: arbitration is lost, which is a command of its own (R49;
log 41). -/
def State.riseLoses (s : State) : Bool := !s.monitor.sda && s.inTransfer.any s.engine.checksAtRise

/-- A rise of D-SCL: not one the recovery sequence waits for, nor one at which arbitration is lost. -/
def State.sclMayRise (s : State) : Bool := !s.monitor.scl && !s.engine.awaitsRise && !s.riseLoses

/-- A fall of D-SCL: not in FREE, and not the end of a byte. -/
def State.sclMayFall (s : State) : Bool := s.monitor.scl && s.monitor.state ≠ .free && !s.engine.atNinth

/-- A change of D-SDA with D-SCL low: a rise not of a line the engine pulls low, a fall not in FREE. -/
def State.sdaMayChange (s : State) (level : Bool) : Bool :=
  !s.monitor.scl && s.monitor.sda ≠ level &&
    (if level then s.engine.sdaDrive = .released else s.monitor.state ≠ .free)

/-- A change that is a START, a STOP, a fall in FREE or the edge of another command is not this command's. -/
def State.changePossible (s : State) (line : BusLine) (level : Bool) : Bool :=
  match line with
  | .scl => if level then s.sclMayRise else s.sclMayFall
  | .sda => s.sdaMayChange level

/-- The engine has released D-SCL and sees it high; the wait of a recovery STOP ends (R32, R64). -/
def Engine.sclRose (e : Engine) : Engine := { e with sclDrive := .released, wait := none }

/-- The place after a fall of D-SCL in a byte: the next bit; after the repeated START the first bit of the read
address; a STOP waits for D-SCL again (R35, R52). A fall in RESTART is taken as the one that ends the repeated START,
whoever made it (log 31). -/
def nextPlace (st : EngineState) (bit : Option Nat) : Option Nat :=
  match bit with
  | some k => some (k + 1)
  | none => if st = .restart then some 0 else none

/-- The engine pulls D-SCL low as it sees it fall, and drives the coming bit (R32, R33). The drive of an acknowledge bit
is set here and stays, an abort mark set later in the bit notwithstanding (R55; log 32). The fall that ends a repeated START
goes from D-SDA released to the drive of the first address bit: the pull before it is not shown (R35; log 43). -/
def State.clockFell (s : State) (t : Ticket) : State :=
  let bit := nextPlace s.engine.state s.engine.bit
  s.setEngine { s.engine with bit := bit, sclDrive := .low, sdaDrive := sdaAt s.engine.state t bit }

/-- The level of D-SDA as the engine's drive of it changes: low where it pulls, high where it lets go (log 12). -/
def dataAfter (before after : Drive) (level : Bool) : Bool := after = .released && (level || before = .low)

/-- A fall of D-SCL (R33, R38). In a recovery STOP whose D-SCL has been seen high it is the monitor's alone: no wait
begins anew (R64; log 34). -/
def State.sclFalls (s : State) : State :=
  match s.inTransfer with
  | some t =>
    let s1 := s.lineFalls.clockFell t
    s1.see false (dataAfter s.engine.sdaDrive s1.engine.sdaDrive s.monitor.sda)
  | none => s.lineFalls.see false s.monitor.sda

/-- A change of a line that is no condition. -/
def State.lineChanges (s : State) (line : BusLine) (level : Bool) : State :=
  match line with
  | .scl => if level then (s.setEngine s.engine.sclRose).see true s.monitor.sda else s.sclFalls
  | .sda => if level then s.see s.monitor.scl true else s.lineFalls.see s.monitor.scl false

/-- D_BUS_LINE_CHANGE (R73, R38). -/
def execDBusLineChange (line : BusLine) (level : Bool) (s : State) : Host.Outcome State Fault Refusal :=
  event (s.changePossible line level) (s.lineChanges line level) s

end Sys2Proof.Machine
end

