-- ==== Sys2Proof/Machine/PortEvents.lean ====
section
/-! DEFINITION. The events of Ports A and B (R146 to R158). -/

namespace Sys2Proof.Machine

/-- The target state a condition leads to (R150, R151, R155). -/
def condTarget : Cond → Target
  | .start => .address
  | .stop => .idle

/-! ### The address byte (R146, R148, R156, R157) -/

/-- The own address: 0x4C plus ADSEL (R146). -/
def State.ownAddress (s : State) : Nat := 0x4C + s.adsel

/-- A byte's seven address bits. -/
def addressBits (byte : Byte) : Nat := byte.toNat / 2

/-- A byte's direction bit is read (R31). -/
def isRead (byte : Byte) : Bool := byte.getLsbD 0

/-- An address byte can begin: its START comes in IDLE or IGNORE or after another START; in a read, once the response
has been read in full (R148; log 16). -/
def Tw.takesAddress (p : Tw) : Bool :=
  match p.target with
  | .idle | .address | .ignore => true
  | .send => p.slot = .empty
  | .receive | .hold => false

/-- Own address, write direction (R148). -/
def Tw.beginWrite (p : Tw) : Tw := { p.goTo .receive with buffer := [], oversize := false }

/-- A read sends that frame from byte 0 (R154, R156). -/
def Tw.beginSend (p : Tw) (frame : List Byte) : Tw := { p.goTo .send with out := frame }

/-- Own address, read direction, by the state of the slot (Table 8.4): the frame, the NO_REQUEST frame, or a hold,
whose count starts where the slot waits on a TRANSACT's ticket (R158), and is measured from here where the slot waits for
an owner that may yet admit one (R143). -/
def Tw.beginRead (p : Tw) : Tw :=
  match p.slot with
  | .ready frame => p.beginSend frame
  | .empty => p.beginSend (responseFrame .noRequest [])
  | .waiting => { p.goTo .hold with since := some 0 }
  | .onTicket _ limit => { p.goTo .hold with hold := some (startCount limit) }

/-- The drive of the data line in an address byte's acknowledge bit (R146 to R148): an ACK of the own address alone. -/
def Tw.addressAck (own : Nat) (byte : Byte) : Drive := if addressBits byte = own then .low else .released

/-- The eighth bit of an address byte has been taken (R148). -/
def Tw.afterAddress (p : Tw) (own : Nat) (byte : Byte) : Tw :=
  if addressBits byte = own then (if isRead byte then p.beginRead else p.beginWrite) else p.goTo .ignore

/-- UPSTREAM_ADDRESS_BYTE (R148). -/
def execUpstreamAddressByte (port : TwPort) (byte : Byte) (s : State) : Host.Outcome State Fault Refusal :=
  event (s.tw port).takesAddress (s.setTw port ((s.tw port).afterAddress s.ownAddress byte)) s

/-! ### Write transfers (R149 to R151, R153) -/

/-- The receive buffer and the oversize mark after these bytes (R149). -/
def Tw.received (p : Tw) (bytes : List Byte) : Tw :=
  { p with buffer := bytes.take Config.maxBuffer, oversize := Config.maxBuffer < bytes.length }

/-- What the decoder makes of a frame reaches the port's slot: its refusal, or the command handed to its owner (R138,
R139). -/
def State.decoded (s : State) (o : Direct) (d : Decoded) : State :=
  match d with
  | .refused status => (s.replaceSlot o none).putReady o (responseFrame status [])
  | .command i => s.replaceSlot o (some i)

/-- The end of a write transfer (R150): a transfer without bytes hands over nothing. -/
def State.endWrite (s : State) (port : TwPort) (bytes : List Byte) (cond : Cond) : State :=
  let p := ((s.tw port).received bytes).goTo (condTarget cond)
  let s1 := s.setTw port p
  if bytes = [] then s1 else s1.decoded (portOrigin port) (decodeFrame (portOrigin port) p.buffer false p.oversize true)

/-- WRITE_TRANSFER_END (R150); one that hands a frame over comes once the owner of the frame before it has taken its
command (log 2). -/
def execWriteTransferEnd (port : TwPort) (bytes : List Byte) (cond : Cond) (s : State) :
    Host.Outcome State Fault Refusal :=
  event ((s.tw port).target = .receive && (bytes.isEmpty || (s.tw port).handed.isNone)) (s.endWrite port bytes cond) s

/-- A write transfer is aborted: its bytes are discarded and the slot is left as it was (R151). The oversize mark, which
the next own-address write clears, is clear (log 39). -/
def Tw.abortWrite (p : Tw) (cond : Cond) : Tw := { p.goTo (condTarget cond) with buffer := [], oversize := false }

/-- WRITE_TRANSFER_ABORT (R151). -/
def execWriteTransferAbort (port : TwPort) (cond : Cond) (s : State) : Host.Outcome State Fault Refusal :=
  event ((s.tw port).target = .receive) (s.setTw port ((s.tw port).abortWrite cond)) s

/-! ### Read transfers (R154 to R156) -/

/-- A frame has been sent through its check byte: an ACK goes on with 0xFF, a NACK leads to IGNORE (R154). The spec gives
the read position no value in the 0xFF tail; the model keeps the frame's length there (DESIGN CHOICE, log 40). -/
def Tw.afterCheckByte (p : Tw) (ack : Bool) : Tw := if ack then { p with pos := p.out.length } else p.goTo .ignore

/-- The whole response has been read and the slot is EMPTY (R154). -/
def Tw.responseRead (p : Tw) (ack : Bool) : Tw := { p.afterCheckByte ack with slot := .empty }

/-- RESPONSE_READ_COMPLETE (R154). -/
def execResponseReadComplete (port : TwPort) (ack : Bool) (s : State) : Host.Outcome State Fault Refusal :=
  event ((s.tw port).target = .send && (s.tw port).slot.isReady)
    (s.setTw port ((s.tw port).responseRead ack)) s

/-- The target state a read's early end leads to (R154, R155). -/
def readEndTarget : ReadEnd → Target
  | .nack => .ignore
  | .start => .address
  | .stop => .idle

/-- READ_ENDED_EARLY (R155): the slot is as it was, the read position 0. -/
def execReadEndedEarly (port : TwPort) (how : ReadEnd) (s : State) : Host.Outcome State Fault Refusal :=
  event ((s.tw port).target = .send) (s.setTw port ((s.tw port).goTo (readEndTarget how))) s

/-- A read of an EMPTY slot is at its first byte. -/
def Tw.sendsNoRequest (p : Tw) : Bool := p.target = .send && p.slot = .empty && p.pos = 0

/-- NO_REQUEST (R156): the three bytes have been sent and the slot stays EMPTY. -/
def execNoRequest (port : TwPort) (ack : Bool) (s : State) : Host.Outcome State Fault Refusal :=
  event (s.tw port).sendsNoRequest (s.setTw port ((s.tw port).afterCheckByte ack)) s

/-! ### The hold limit and a STOP (R148, R158) -/

/-- The wait on a TRANSACT's ticket ends with PENDING: the queue is told, and the slot is READY with the ticket's
number (R158, R173, R144). -/
def State.holdExpires (s : State) (o : Direct) (number : Nat) : State :=
  (s.stopWaiting o).putReady o (responseFrame .pending [byteOf number])

/-- HOLD_LIMIT_EXPIRY (R158). -/
def execHoldLimitExpiry (port : TwPort) (s : State) : Host.Outcome State Fault Refusal :=
  match (s.tw port).slot with
  | .onTicket number _ => event (ranOut (s.tw port).hold) (s.holdExpires (portOrigin port) number) s
  | .empty | .waiting | .ready _ => event false s s

/-- A STOP that ends no transfer the port takes part in: in IGNORE, inside an address byte, or after a response that
has been read in full (R148; log 16). -/
def Tw.takesStop (p : Tw) : Bool :=
  match p.target with
  | .ignore | .address => true
  | .send => p.slot = .empty
  | .idle | .receive | .hold => false

/-- UPSTREAM_STOP (R148). -/
def execUpstreamStop (port : TwPort) (s : State) : Host.Outcome State Fault Refusal :=
  event (s.tw port).takesStop (s.setTw port ((s.tw port).goTo .idle)) s

end Sys2Proof.Machine
end

