-- ==== Sys2Proof/Machine/PortCEvents.lean ====
section
/-! DEFINITION. The events of Port C (R163 to R173). -/

namespace Sys2Proof.Machine

/-! ### The start of a block (R163, R166, R169) -/

/-- The lead byte (Table 9.2). -/
def PortC.leadByte (p : PortC) : Byte :=
  match p.slot with
  | .ready _ => if p.discarded then 0xA4#8 else 0xA5#8
  | .waiting | .onTicket .. => 0xFE#8
  | .empty => 0xFF#8

/-- The slot gives its response to the block that begins: the slot is EMPTY and the discarded mark clear (R169). -/
def PortC.giveOut (p : PortC) : PortC :=
  match p.slot with
  | .ready frame => { p with out := some frame, slot := .empty, discarded := false }
  | .empty | .waiting | .onTicket .. => { p with out := none }

/-- A block begins with that gap time (R163). -/
def PortC.beginBlock (p : PortC) (gap : Nat) : PortC :=
  { p.giveOut with
    inBlock := true, gap := some gap, bits := 0, buffer := [], bytes := 0, lead := some p.leadByte }

/-- BLOCK_START (R166, R163). -/
def execBlockStart (s : State) : Host.Outcome State Fault Refusal :=
  event (!s.portC.inBlock) (s.setPortC (s.portC.beginBlock s.settings.gap.toNat)) s

/-! ### The end of a block (R163 to R165, R169 to R171) -/

/-- The bytes taken in a block (R164): the first 39 are kept, all are counted, a partial byte is discarded. -/
def PortC.took (p : PortC) (bytes : List Byte) : PortC :=
  { p with bits := 0, buffer := bytes.take Config.maxBuffer, bytes := bytes.length }

/-- The request of a block's complete bytes, and whether it is cut short (R165); the bytes kept are the first 39 of
that many. -/
def requestOf (kept : List Byte) (count : Nat) : Option (List Byte × Bool) :=
  match kept with
  | [] => none
  | [b] => some ([b], true)
  | b :: l :: rest =>
    if 36 < l.toNat then some ([b, l], false)
    else if l.toNat + 3 ≤ count then some ((b :: l :: rest).take (l.toNat + 3), false)
    else some (b :: l :: rest, true)

/-- The block began with the slot WAITING (Table 9.2). -/
def PortC.beganWaiting (p : PortC) : Bool := p.lead = some 0xFE#8

/-- The block is over: the output frame is dropped (R163). -/
def PortC.between (p : PortC) : PortC := { p with inBlock := false, out := none }

/-- The request of the block is taken, or discarded where the block began with the slot WAITING (R165, R170). -/
def State.takeRequest (s : State) (p : PortC) : State :=
  match requestOf p.buffer p.bytes with
  | none => s
  | some (frame, cut) =>
    if p.beganWaiting then s.setPortC { s.portC with discarded := true }
    else s.decoded .c (decodeFrame .c frame cut false false)

/-- The gap timer has ended the block (R163). -/
def State.endBlock (s : State) (bytes : List Byte) : State :=
  let p := s.portC.took bytes
  (s.setPortC p.between).takeRequest p

/-- BLOCK_END (R163); a block with a complete byte ends once the owner has taken the command of the block before, so the
discarded mark is clear when a command is taken (R171, R174; log 42). -/
def execBlockEnd (bytes : List Byte) (partialBits : Nat) (s : State) : Host.Outcome State Fault Refusal :=
  event (s.portC.inBlock && partialBits < 8 && (bytes.isEmpty || s.portC.handed.isNone)) (s.endBlock bytes) s

/-! ### The hold count (R173) -/

/-- PORT_C_HOLD_EXPIRY (R173). -/
def execPortCHoldExpiry (s : State) : Host.Outcome State Fault Refusal :=
  match s.portC.slot with
  | .onTicket number _ => event (ranOut s.portC.hold) (s.holdExpires .c number) s
  | .empty | .waiting | .ready _ => event false s s

end Sys2Proof.Machine
end

