-- ==== Sys2Proof/Machine/TimeEvents.lean ====
section
/-! DEFINITION. The broker time and the deadlines of the queue (R14, R57, R118, R183, R184). -/

namespace Sys2Proof.Machine

/-! ### DEADLINE_EXPIRY (R14) -/

/-- The QUEUED ticket of an origin ends EXPIRED. -/
def State.expireTicket (s : State) (origin : Origin) (t : Ticket) : State := s.endQueued origin t .expired

/-- DEADLINE_EXPIRY (R14): taken once the broker time has reached the ticket's queue deadline (log 3). -/
def execDeadlineExpiry (origin : Origin) (number : Nat) (s : State) : Host.Outcome State Fault Refusal :=
  match s.findQueued origin number with
  | some t => event t.deadlineReached (s.expireTicket origin t) s
  | none => event false s s

/-! ### BROKER_TIME_TICK (R183): what each timer's owner makes of a change of the broker time -/

/-- A ticket's deadline is reached (R184). -/
def Ticket.tick (t : Ticket) (now : Time) : Ticket :=
  { t with deadlineReached := t.deadlineReached || t.deadline = now }

/-- The queue's deadlines; that of the ACTIVE ticket is kept for its return to QUEUED (R15). -/
def Queue.tick (q : Queue) (now : Time) : Queue :=
  { q with
    queued :=
      ⟨q.queued.a.map (·.tick now), q.queued.b.map (·.tick now), q.queued.c.map (·.tick now),
        q.queued.p.map (·.tick now)⟩
    active := q.active.map (·.tick now) }

/-- A lease's expiry time is reached (R184). -/
def Lease.tick (l : Lease) (now : Time) : Lease := { l with reached := l.reached || l.expiry = now }

/-- An entry's age count (R118), and its next due time (R119, R184), which passes no second time while its due mark
is set. -/
def Entry.tick (e : Entry) (isDue : Bool) (now : Time) : Entry :=
  { e with
    age := min (e.age + 1) Config.maxAge
    dueReached := e.dueReached || (e.due = now && !isDue) }

/-- The mirror's entries, from that index on. -/
def tickEntries (marks : List DueMark) (now : Time) : Nat → List (Option Entry) → List (Option Entry)
  | _, [] => []
  | i, e :: es => e.map (·.tick (marks.any (·.index = i)) now) :: tickEntries marks now (i + 1) es

/-- The engine's limits, its wait and its retry count (R57). An own low time is over: the engine has released D-SCL and
waits to see it high (R32; log 30). -/
def Engine.tick (e : Engine) : Engine :=
  { e with
    sclDrive := .released
    stretch := e.stretch.map Count.tick, trans := e.trans.map Count.tick
    wait := e.wait.map Count.tick, retry := e.retry.map Count.tick }

/-- The monitor's idle count and held-data count (R38, R73). -/
def Monitor.tick (m : Monitor) : Monitor := { m with idle := m.idle.map (· + 1), held := m.held.map Count.tick }

/-- A two-wire port's hold count, and the time of a hold before the admission (R158, R143). -/
def Tw.tick (p : Tw) : Tw := { p with hold := p.hold.map Count.tick, since := p.since.map (· + 1) }

/-- Port C's hold count, and the time since the request block before the admission (R173, R143). -/
def PortC.tick (p : PortC) : PortC := { p with hold := p.hold.map Count.tick, since := p.since.map (· + 1) }

/-- Due marks set before this change of the broker time are no longer of the present one (R122). -/
def DueMark.tick (m : DueMark) : DueMark := { m with fresh := false }

/-- One change of the broker time reaches every timer (R183). -/
def State.tick (s : State) : State :=
  let now := s.time + 1#16
  { s with
    time := now
    queue := s.queue.tick now
    leases := s.leases.map (·.tick now)
    mirror := tickEntries s.dueMarks now 0 s.mirror
    dueMarks := s.dueMarks.map DueMark.tick
    engine := s.engine.tick
    monitor := s.monitor.tick
    portA := s.portA.tick
    portB := s.portB.tick
    portC := s.portC.tick }

/-- BROKER_TIME_TICK (R183). -/
def execBrokerTimeTick (s : State) : Host.Outcome State Fault Refusal := event true s.tick s

end Sys2Proof.Machine
end

