-- ==== Sys2Proof/Machine/ResetEvents.lean ====
section
/-! DEFINITION. Broker reset: its entry and its release (R28, R56, R75, R95, R108, R132, R161, R175, R187 to R189). -/

namespace Sys2Proof.Machine

/-- The cause of a reset in progress once another begins: POWER_ON where either is (R187). -/
def mergeCause (before : Option ResetCause) (cause : ResetCause) : ResetCause :=
  if before = some .powerOn then .powerOn else cause

/-- The monitor while nRST is low: UNKNOWN, its counts cleared (R56, R75). -/
def Monitor.cleared (m : Monitor) : Monitor := ⟨.unknown, m.scl, m.sda, none, none, none⟩

/-- The part while nRST is low or the supply is not valid: every output released, everything it held discarded, the
broker time held at 0 (R183, R187; log 19). The cause and ADSEL of the last reset stand until the release (R189). -/
def State.enterReset (s : State) (cause : ResetCause) : State :=
  { State.atRelease s.cause s.adsel s.monitor.scl s.monitor.sda s.pending with
    resetting := some (mergeCause s.resetting cause)
    monitor := s.monitor.cleared
    records := ⟨Records.empty, Records.empty, Records.empty⟩
    pins := Pins.released }

/-- BROKER_RESET_ENTRY (R187), in any state. -/
def execBrokerResetEntry (cause : ResetCause) (s : State) : Host.Outcome State Fault Refusal :=
  .next (s.enterReset cause)

/-- ADSEL of the strap pins (R192). -/
def adselOf (adsel1 adsel0 : Bool) : Nat := 2 * adsel1.toNat + adsel0.toNat

/-- BROKER_RESET_RELEASE (R188), in a broker reset. -/
def execBrokerResetRelease (adsel1 adsel0 scl sda : Bool) (s : State) : Host.Outcome State Fault Refusal :=
  match s.resetting with
  | some cause => .next (State.atRelease cause (adselOf adsel1 adsel0) scl sda s.pending)
  | none => .next s

end Sys2Proof.Machine
end

