-- ==== Sys2Proof/Machine/Dispatch.lean ====
section
/-! DEFINITION. The meaning of each command: one arm per constructor of `Instr`. -/

namespace Sys2Proof.Machine

/-- The effect of a command on everything but the queue of commands. -/
def exec (i : Instr) (s : State) : Host.Outcome State Fault Refusal :=
  match i with
  | .submit o kindFlags addr limit readLen data => Sys2Proof.Machine.execSubmit o kindFlags addr limit readLen data s
  | .transact o kindFlags addr limit readLen data => Sys2Proof.Machine.execTransact o kindFlags addr limit readLen data s
  | .cancel o number => Sys2Proof.Machine.execCancel o number s
  | .ticketQuery o number => Sys2Proof.Machine.execTicketQuery o number s
  | .collect o ack max => Sys2Proof.Machine.execCollect o ack max s
  | .notices o ack lostSeen max => Sys2Proof.Machine.execNotices o ack lostSeen max s
  | .lease o addr duration flags => Sys2Proof.Machine.execLease o addr duration flags s
  | .release o addr => Sys2Proof.Machine.execRelease o addr s
  | .mirrorDefine o index flags addr reg width interval low high => Sys2Proof.Machine.execMirrorDefine o index flags addr reg width interval low high s
  | .mirrorDrop o index => Sys2Proof.Machine.execMirrorDrop o index s
  | .mirrorRead o indices => Sys2Proof.Machine.execMirrorRead o indices s
  | .subscribe o index => Sys2Proof.Machine.execSubscribe o index s
  | .unsubscribe o index => Sys2Proof.Machine.execUnsubscribe o index s
  | .refresh o index => Sys2Proof.Machine.execRefresh o index s
  | .settingRead o number => Sys2Proof.Machine.execSettingRead o number s
  | .settingWrite o number value => Sys2Proof.Machine.execSettingWrite o number value s
  | .status o => Sys2Proof.Machine.execStatus o s
  | .originReset o => Sys2Proof.Machine.execOriginReset o s
  | .busRecover o => Sys2Proof.Machine.execBusRecover o s
  | .upstreamAddressByte port byte => Sys2Proof.Machine.execUpstreamAddressByte port byte s
  | .writeTransferEnd port bytes cond => Sys2Proof.Machine.execWriteTransferEnd port bytes cond s
  | .writeTransferAbort port cond => Sys2Proof.Machine.execWriteTransferAbort port cond s
  | .responseReadComplete port ack => Sys2Proof.Machine.execResponseReadComplete port ack s
  | .readEndedEarly port how => Sys2Proof.Machine.execReadEndedEarly port how s
  | .noRequest port ack => Sys2Proof.Machine.execNoRequest port ack s
  | .holdLimitExpiry port => Sys2Proof.Machine.execHoldLimitExpiry port s
  | .blockStart => Sys2Proof.Machine.execBlockStart s
  | .blockEnd bytes partialBits => Sys2Proof.Machine.execBlockEnd bytes partialBits s
  | .portCHoldExpiry => Sys2Proof.Machine.execPortCHoldExpiry s
  | .ticketStart => Sys2Proof.Machine.execTicketStart s
  | .addressByteEnd ack => Sys2Proof.Machine.execAddressByteEnd ack s
  | .writeByteEnd ack => Sys2Proof.Machine.execWriteByteEnd ack s
  | .restartEnd ack => Sys2Proof.Machine.execRestartEnd ack s
  | .readByteEnd byte => Sys2Proof.Machine.execReadByteEnd byte s
  | .stopComplete => Sys2Proof.Machine.execStopComplete s
  | .arbitrationLost cut => Sys2Proof.Machine.execArbitrationLost cut s
  | .misplacedCondition cond cut => Sys2Proof.Machine.execMisplacedCondition cond cut s
  | .stretchTimeout cut scl sda => Sys2Proof.Machine.execStretchTimeout cut scl sda s
  | .transactionTimeout cut scl sda => Sys2Proof.Machine.execTransactionTimeout cut scl sda s
  | .recoveryClockRise sda => Sys2Proof.Machine.execRecoveryClockRise sda s
  | .recoveryPulse sda => Sys2Proof.Machine.execRecoveryPulse sda s
  | .stuckLimitExpiry => Sys2Proof.Machine.execStuckLimitExpiry s
  | .recoveryStopComplete => Sys2Proof.Machine.execRecoveryStopComplete s
  | .recoveryStopFail => Sys2Proof.Machine.execRecoveryStopFail s
  | .retryCountExpiry => Sys2Proof.Machine.execRetryCountExpiry s
  | .foreignStart => Sys2Proof.Machine.execForeignStart s
  | .stopSeen => Sys2Proof.Machine.execStopSeen s
  | .busFreeTimePassed => Sys2Proof.Machine.execBusFreeTimePassed s
  | .idleDetect => Sys2Proof.Machine.execIdleDetect s
  | .lineFallInFree line => Sys2Proof.Machine.execLineFallInFree line s
  | .heldDataExpiry => Sys2Proof.Machine.execHeldDataExpiry s
  | .deadlineExpiry origin number => Sys2Proof.Machine.execDeadlineExpiry origin number s
  | .leaseExpiry addr => Sys2Proof.Machine.execLeaseExpiry addr s
  | .pollDue index => Sys2Proof.Machine.execPollDue index s
  | .staleness index => Sys2Proof.Machine.execStaleness index s
  | .brokerTimeTick => Sys2Proof.Machine.execBrokerTimeTick s
  | .brokerResetEntry cause => Sys2Proof.Machine.execBrokerResetEntry cause s
  | .brokerResetRelease adsel1 adsel0 scl sda => Sys2Proof.Machine.execBrokerResetRelease adsel1 adsel0 scl sda s
  | .dBusLineChange line level => Sys2Proof.Machine.execDBusLineChange line level s
  | .upstreamStop port => Sys2Proof.Machine.execUpstreamStop port s

end Sys2Proof.Machine
end

