-- ==== Sys2Proof/Safety.lean ====
section
/-! DEFINITION. What claims about the part are stated in: the parts of State, which of them a command may change, and
the invariants every step keeps. -/

namespace Sys2Proof.Machine

/-! ### The parts of State and the frame of a command -/

/-- The parts of State, of one owner each. -/
inductive Part where
  | reset | time | settings | queue | engine | monitor | leases | mirror | dueMarks
  | records (o : Direct)
  | port (p : TwPort)
  | portC
  deriving DecidableEq, Repr

/-- Two states agree in a part. -/
def Part.same (p : Part) (s t : State) : Prop :=
  match p with
  | .reset => t.resetting = s.resetting ∧ t.cause = s.cause ∧ t.adsel = s.adsel
  | .time => t.time = s.time
  | .settings => t.settings = s.settings
  | .queue => t.queue = s.queue
  | .engine => t.engine = s.engine
  | .monitor => t.monitor = s.monitor
  | .leases => t.leases = s.leases
  | .mirror => t.mirror = s.mirror
  | .dueMarks => t.dueMarks = s.dueMarks
  | .records o => t.recOf o = s.recOf o
  | .port p => t.tw p = s.tw p
  | .portC => t.portC = s.portC

/-- The port of an origin. -/
def portPart : Direct → Part
  | .a => .port .a
  | .b => .port .b
  | .c => .portC

/-- A part of the records of some origin. -/
def Part.isRecords : Part → Bool
  | .records _ => true
  | _ => false

/-- A part that the end of a ticket reaches: the queue, the mirror and its due marks, records, and a port that waits. -/
def Part.endingReaches : Part → Bool
  | .queue | .mirror | .dueMarks | .records _ | .port _ | .portC => true
  | .reset | .time | .settings | .engine | .monitor | .leases => false

/-- A part of the D-bus engine's block. -/
def Part.isBus : Part → Bool
  | .engine | .monitor => true
  | _ => false

/-- The parts a command may change. Every controller's command reaches the port it came by (R139) and, through a wait
that its frame ends, the queue (R153). -/
def mayChange (i : Instr) (p : Part) : Bool :=
  match i with
  | .submit o .. | .transact o .. => p = .queue || p = portPart o
  | .cancel o .. => p = .queue || p = portPart o || p = .records o || p = .mirror || p = .dueMarks
  | .ticketQuery o .. | .mirrorRead o .. | .settingRead o .. | .status o => p = .queue || p = portPart o
  | .collect o .. => p = .queue || p = portPart o || p = .records o || p = .mirror || p = .dueMarks
  | .notices o .. => p = .queue || p = portPart o || p = .records o
  | .lease o .. | .release o .. => p = .queue || p = portPart o || p = .leases
  | .mirrorDefine o .. => p = .queue || p = portPart o || p = .mirror || p = .dueMarks
  | .mirrorDrop o .. => p = .queue || p = portPart o || p = .mirror || p = .dueMarks || p.isRecords
  | .subscribe o .. | .unsubscribe o .. => p = .queue || p = portPart o || p = .mirror
  | .refresh o .. => p = .queue || p = portPart o || p = .mirror || p = .dueMarks
  | .settingWrite o .. =>
    p = .queue || p = portPart o || p = .settings || p = .mirror || p = .dueMarks || p.isRecords || p.isBus
  | .originReset o => p = .queue || p = portPart o || p = .leases || p = .mirror || p = .dueMarks || p.isRecords
  | .busRecover o => p = .queue || p = portPart o || p.isBus || p.isRecords
  | .upstreamAddressByte port _ | .writeTransferAbort port _ | .responseReadComplete port _ | .readEndedEarly port _
  | .noRequest port _ | .upstreamStop port => p = .port port
  | .writeTransferEnd port .. | .holdLimitExpiry port => p = .port port || p = .queue
  | .blockStart => p = .portC
  | .blockEnd .. | .portCHoldExpiry => p = .portC || p = .queue
  | .ticketStart | .addressByteEnd .. | .writeByteEnd .. | .restartEnd .. | .readByteEnd .. => p = .queue || p.isBus
  | .stopComplete | .arbitrationLost .. | .misplacedCondition .. | .stretchTimeout .. | .transactionTimeout ..
  | .foreignStart | .stopSeen => p.isBus || p.endingReaches
  | .recoveryClockRise .. | .dBusLineChange .. | .lineFallInFree .. | .heldDataExpiry | .retryCountExpiry => p.isBus
  | .recoveryPulse .. | .stuckLimitExpiry | .recoveryStopComplete | .recoveryStopFail | .busFreeTimePassed
  | .idleDetect => p.isBus || p.isRecords
  | .deadlineExpiry .. => p.endingReaches
  | .leaseExpiry .. => p = .leases || p = .queue || p.isRecords
  | .pollDue .. => p = .queue || p = .mirror || p = .dueMarks
  | .staleness .. => p = .mirror
  | .brokerTimeTick =>
    p = .time || p = .queue || p = .leases || p = .mirror || p = .dueMarks || p.isBus || p = .port .a
      || p = .port .b || p = .portC
  | .brokerResetEntry .. | .brokerResetRelease .. => true

/-! ### What an answer and an admission are, in the spec's words -/

/-- A response frame is ready at the port of an origin (R135, R139). -/
def State.answered (s : State) (o : Direct) (status : Status) (payload : List Byte) : Prop :=
  s.slotOf o = .ready (responseFrame status payload)

/-- The write length and read length that Table 1.2 allows a kind code. -/
def lengthsAllowed (code writeLen readLen : Nat) : Bool :=
  (code = 0 && writeLen = 0 && readLen = 0) || (code = 1 && between 1 32 writeLen && readLen = 0)
    || (code = 2 && writeLen = 0 && between 1 32 readLen)
    || (code = 3 && between 1 32 writeLen && between 1 32 readLen)

/-- The refusal of a SUBMIT or TRANSACT, by the checks of R5 in their order. -/
def State.refusal (s : State) (o : Direct) (kindFlags addr readLen : Byte) (data : List Byte) : Option Status :=
  if 3 < kindFlags.toNat % 8 then some .badParam
  else if kindFlags.toNat / 8 % 16 ≠ 0 then some .badParam
  else if addr.toNat < 0x08 ∨ 0x77 < addr.toNat then some .badAddress
  else if lengthsAllowed (kindFlags.toNat % 8) data.length readLen.toNat = false then some .badParam
  else if 24 ≤ s.queue.total then some .refusedFull
  else if s.settings.quota (directOrigin o) ≤ s.queue.counted (directOrigin o) then some .refusedQuota
  else none

/-- A ticket kind of that code (Table 11.2). -/
def kindOfCode (code : Nat) : Kind :=
  if code = 0 then .probe else if code = 1 then .write else if code = 2 then .read else .writeRead

/-- What an admitted SUBMIT or TRANSACT asks for: its fields as they stand, the queue limit in units of 10 ms, 0 for
the default queue limit (R6). -/
def State.asked (s : State) (kindFlags addr limit readLen : Byte) (data : List Byte) : Request where
  kind := kindOfCode (kindFlags.toNat % 8)
  addr := addr
  wdata := data
  rlen := readLen.toNat
  noRetry := 128 ≤ kindFlags.toNat
  limit := 10 * (if limit = 0#8 then s.settings.queueLimit.toNat else limit.toNat)

/-- The queue with one more QUEUED ticket of a direct origin, at the tail of its order, and the counter past its number
(R3, R6). -/
def Queue.withTicket (q : Queue) (o : Direct) (t : Ticket) : Queue :=
  { q with
    queued := q.queued.set (directOrigin o) (q.queued.get (directOrigin o) ++ [t])
    counter := q.counter.set o (if t.number = 255 then 1 else t.number + 1) }

/-- The refusal of a MIRROR DEFINE by checks 1 to 6 of R111 in their order, limits read where their flag is set. -/
def defineRefusal (index flags addr width : Byte) (interval : BitVec 16) (low high : Field) : Option Status :=
  let bound : Nat := 2 ^ (8 * width.toNat)
  if 31 < index.toNat ∧ index ≠ 0xFF#8 then some .badParam
  else if 15 < flags.toNat then some .badParam
  else if width ≠ 1#8 ∧ width ≠ 2#8 ∧ width ≠ 4#8 then some .badParam
  else if interval.toNat < 1 ∨ 6000 < interval.toNat then some .badParam
  else if (flags.getLsbD 2 ∧ bound ≤ low.toNat) ∨ (flags.getLsbD 3 ∧ bound ≤ high.toNat) then some .badParam
  else if flags.getLsbD 2 ∧ flags.getLsbD 3 ∧ high.toNat < low.toNat then some .badParam
  else if addr.toNat < 0x08 ∨ 0x77 < addr.toNat then some .badAddress
  else none

/-- A defined entry as R112 sets it, but for what the poll engine does with its due time at once (R119). -/
def Entry.asDefined (e : Entry) (o : Direct) (flags addr reg width : Byte) (interval : BitVec 16) (low high : Field) :
    Prop :=
  e.status = .pendingFirst ∧ e.owner = o ∧ e.addr = addr ∧ e.reg = reg ∧ e.width = width.toNat ∧
    e.msbFirst = flags.getLsbD 1 ∧ e.interval = interval.toNat ∧
    e.low = (if flags.getLsbD 2 then some low.toNat else none) ∧
    e.high = (if flags.getLsbD 3 then some high.toNat else none) ∧
    e.range = .inRange ∧ e.value = none ∧ e.age = 65535 ∧ e.fails = 0

/-- The bytes that the records of a list take on the wire (R77, R82). -/
def recordBytes (l : List Record) : Nat := (l.map fun r => 10 + r.data.length).sum

/-- The poll ticket of an entry posted now (R120, R4). -/
def State.pollTicket (s : State) (i : Nat) (e : Entry) : Ticket where
  number := i
  origin := .p
  kind := .writeRead
  addr := e.addr
  wdata := [e.reg]
  rlen := e.width
  noRetry := false
  deadline := s.time + BitVec.ofNat 16 (min (e.interval * 10) 2550)
  deadlineReached := false
  submit := s.time
  retries := 0
  result := none
  finish := none
  abort := false
  orphaned := false
  leaseEnded := false
  waited := false
  acked := 0
  rdata := []
  greatest := 0

/-- The poll tickets of the entries that due marks name, in order. -/
def State.pollTickets (s : State) (l : List DueMark) : List Ticket :=
  l.filterMap fun m => (s.entry m.index).map (s.pollTicket m.index)

/-- No two due marks of one entry. -/
def marksApart : List DueMark → Bool
  | [] => true
  | m :: ms => ms.all (fun n => n.index ≠ m.index) && marksApart ms

/-- Due marks are set on defined entries with no poll posted, one on each (R119 to R121). -/
def State.dueMarksWf (s : State) : Bool :=
  marksApart s.dueMarks && s.dueMarks.all fun m => (s.entry m.index).any fun e => !e.posted

/-- From `u` a retry trigger has led to `t` (R122): the waiting entries have posted in the order of their due marks, up
to the first that the queue had no place for. -/
def State.retriedTo (u t : State) : Prop :=
  u.dueMarksWf = true →
    ∃ posts left, u.dueMarks = posts ++ left ∧ t.dueMarks = left ∧
      t.queuedOf .p = u.queuedOf .p ++ u.pollTickets posts ∧
      (∀ i, t.entry i = (u.entry i).map fun e => { e with posted := e.posted || posts.any (·.index = i) }) ∧
      (posts ≠ [] → t.queue.total ≤ 24 ∧ t.queue.counted .p ≤ t.settings.quota .p) ∧
      (left ≠ [] → 24 ≤ t.queue.total ∨ t.settings.quota .p ≤ t.queue.counted .p)

/-- A direct ticket's outcome in its origin's records: a record in the ring where it holds fewer than 8, and then its
departure is a retry trigger (R26); else the ticket DONE_WAITING at the tail (R10). -/
def outcomeTaken (s t : State) (o : Direct) (k : Ticket) (r : Result) : Prop :=
  if (s.recOf o).ring.length < 8 then
    t.recOf o = { s.recOf o with ring := (s.recOf o).ring ++ [k.record r s.time] } ∧ t.waitingOf o = s.waitingOf o ∧
      s.retriedTo t
  else
    t.recOf o = s.recOf o ∧
      t.waitingOf o = s.waitingOf o ++ [{ k with result := some r, finish := some s.time, waited := false }] ∧
      t.dueMarks = s.dueMarks ∧ t.queuedOf .p = s.queuedOf .p

/-- Two states have the same mirror entries, but for the poll-posted marks that a retried post sets (R122). -/
def State.sameEntries (t u : State) : Prop :=
  ∀ j, (t.entry j).map (fun e => { e with posted := false }) = (u.entry j).map fun e => { e with posted := false }

/-- The same of every entry but one. -/
def State.sameEntriesBut (t u : State) (i : Nat) : Prop :=
  ∀ j, j ≠ i →
    (t.entry j).map (fun e => { e with posted := false }) = (u.entry j).map fun e => { e with posted := false }

/-- The end of a ticket with a result: an orphan's reaches nothing (R20), a direct ticket's its origin's records alone
(R10), a poll ticket's its entry and the entry's subscribers (R12). A ticket that leaves the queue is a retry trigger
(R26). -/
def ticketEnded (s t : State) (k : Ticket) (r : Result) : Prop :=
  (k.orphaned = true →
    t.records = s.records ∧ t.queue.waiting = s.queue.waiting ∧ t.sameEntries s ∧ s.retriedTo t) ∧
    (∀ o, k.orphaned = false → k.origin = directOrigin o →
      outcomeTaken s t o k r ∧ (∀ q, q ≠ o → t.recOf q = s.recOf q ∧ t.waitingOf q = s.waitingOf q) ∧
        t.sameEntries s) ∧
    (k.orphaned = false → k.origin = .p →
      t.records = (s.pollResult k.number r k.rdata).records ∧ t.queue.waiting = s.queue.waiting ∧
        t.sameEntries (s.pollResult k.number r k.rdata) ∧ (s.pollResult k.number r k.rdata).retriedTo t)

/-- What an event that cuts a byte leaves of the ticket's progress: nothing had been sampled that counts, or the ACK of
a write byte had (R44, R60), or the eighth bit of a read byte (R46). -/
def cutLeaves (st : EngineState) (k : Ticket) (cut : Sampled) (k' : Ticket) : Prop :=
  (cut = .nothing ∧ k' = k) ∨
    (cut = .writeAck ∧ st = .write ∧ k.acked < k.wdata.length ∧
      k' = { k with acked := k.acked + 1, greatest := max k.greatest (k.acked + 1) }) ∨
    ∃ b, cut = .readByte b ∧ st = .read ∧ k.rdata.length < k.rlen ∧ k' = { k with rdata := k.rdata ++ [b] }

/-- The engine's place is a check point that a rise of D-SCL samples (R48): a bit it sends as 1, the D-SDA high that opens
a repeated START, the NACK it gives. -/
def Engine.atCheckPoint (e : Engine) (k : Ticket) : Prop :=
  (e.state ∈ [EngineState.address, .write, .restart] ∧
      ∃ b, b < 8 ∧ e.bit = some b ∧ (k.sentByte e.state).getLsbD (7 - b) = true) ∨
    (e.state = .restart ∧ e.bit = none) ∨ (e.state = .read ∧ e.bit = some 8 ∧ e.sdaDrive = .released)

/-! ### Invariants -/

/-- The outputs are those the state gives (R91, R157, R172, R187). -/
def State.outputsRight (s : State) : Bool := s.pins = s.outputs

/-- An origin's records: the capacities of R78 and R87, the delivered counts within what they count, and a reported
lost count that the lost count has reached (R88). -/
def Records.wf (r : Records) : Bool :=
  r.ring.length ≤ Config.maxRing && r.d ≤ r.ring.length && r.notices.length ≤ Config.maxNotices
    && r.e ≤ r.notices.length && r.lost ≤ Config.maxCount && r.reported ≤ r.lost

/-- The records of every origin are well formed. -/
def State.recordsWf (s : State) : Bool := (s.recOf .a).wf && (s.recOf .b).wf && (s.recOf .c).wf

/-- Every setting is in its range (R176, R177). -/
def Settings.wf (x : Settings) : Bool :=
  settingInRange 0 x.rate && settingInRange 1 x.stretch && settingInRange 2 x.transaction
    && settingInRange 3 x.retryLimit && settingInRange 4 x.idleDetect && settingInRange 5 x.stuckLimit
    && settingInRange 6 x.retryInterval && settingInRange 7 x.queueLimit && settingInRange 8 x.quotas
    && settingInRange 9 x.weights && settingInRange 10 x.holdLimits && settingInRange 11 x.attention
    && settingInRange 12 x.gap

/-- No two leases on one address (R96). -/
def leasesApart : List Lease → Bool
  | [] => true
  | l :: ls => ls.all (fun m => m.addr ≠ l.addr) && leasesApart ls

/-- The lease table: at most 8, one for each address, every address usable (R96, R97). -/
def State.leasesWf (s : State) : Bool :=
  s.leases.length ≤ Config.maxLeases && leasesApart s.leases && s.leases.all fun l => usableAddress l.addr

/-- The mirror holds 32 entries (R109). -/
def State.mirrorWf (s : State) : Bool := s.mirror.length = Config.maxEntries

/-- A slot waits. -/
def Slot.isWaiting : Slot → Bool
  | .waiting | .onTicket .. => true
  | .empty | .ready _ => false

/-- A two-wire port: a hold only while the slot waits, no read going on while it waits (R157), a command handed over
only while the slot waits for its answer (R152), the time of a hold before an admission kept in such a hold alone (log
15), at most 39 bytes kept (R149). -/
def Tw.wf (p : Tw) : Bool :=
  (p.target ≠ .hold || p.slot.isWaiting) && (p.target ≠ .send || !p.slot.isWaiting)
    && (p.handed.isNone || p.slot = .waiting) && (p.since.isNone || p.target = .hold && p.slot = .waiting)
    && p.buffer.length ≤ Config.maxBuffer

/-- Port C: the slot stays EMPTY in a block that did not begin WAITING, is not EMPTY in one that did, and is not EMPTY
while the discarded mark is set (R166, R169, R170); a command handed over, and the time since its block kept, only while
the slot waits for its answer (R168, log 15); no command handed over while the discarded mark is set, an ORIGIN RESET not
either (R174). -/
def PortC.wf (p : PortC) : Bool :=
  (!p.inBlock || (if p.beganWaiting then p.slot ≠ .empty else p.slot = .empty))
    && (!p.discarded || p.slot ≠ .empty) && (p.handed.isNone || p.slot = .waiting)
    && (p.handed.isNone || !p.discarded) && (p.since.isNone || p.slot = .waiting) && p.buffer.length ≤ Config.maxBuffer

/-- The three ports. -/
def State.portsWf (s : State) : Bool := s.portA.wf && s.portB.wf && s.portC.wf

/-- A direct origin's ticket number counter is 1 to 255 (R3). -/
def counterRight (n : Nat) : Bool := 1 ≤ n && n ≤ 255

/-- The queue: at most 24 tickets (R5), counters 1 to 255 (R3), and a credit of at most 4 with the one the ACTIVE
ticket's start used (R24, R25). -/
def Queue.wf (q : Queue) : Bool :=
  q.total ≤ Config.maxTickets && counterRight q.counter.a && counterRight q.counter.b && counterRight q.counter.c
    && q.credit + q.activeCount ≤ 4

/-- The ACTIVE ticket, if it is of that origin. -/
def State.activeFrom (s : State) (o : Origin) : List Ticket := s.queue.active.toList.filter (·.origin = o)

/-- The numbers in use for a direct origin: those of its tickets in the queue, orphaned or not, and of its ring records
(R3). -/
def State.numbers (s : State) (o : Direct) : List Nat :=
  (s.queuedOf (directOrigin o) ++ s.activeFrom (directOrigin o) ++ s.waitingOf o).map (·.number)
    ++ (s.recOf o).ring.map (·.number)

/-- Poll tickets that are not orphaned: at most one of each entry, and the entry is defined and has its poll-posted mark
set (R4, R120). -/
def State.pollsWf (s : State) : Bool :=
  let polls := s.queuedOf .p ++ (s.activeFrom .p).filter (fun k => !k.orphaned)
  decide (polls.map (·.number)).Nodup && polls.all fun k => (s.entry k.number).any (·.posted)

/-- The tickets of a direct origin carry its name, and no two of its tickets and records one number (R3). -/
def State.directTicketsWf (s : State) (o : Direct) : Bool :=
  (s.queuedOf (directOrigin o) ++ s.waitingOf o).all (fun k => k.origin = directOrigin o)
    && decide (s.numbers o).Nodup

/-- The tickets of the queue are told apart by their numbers (R3, R4). -/
def State.ticketsWf (s : State) : Bool :=
  s.directTicketsWf .a && s.directTicketsWf .b && s.directTicketsWf .c
    && (s.queuedOf .p).all (fun k => k.origin = .p) && s.pollsWf

/-- The engine holds a ticket exactly in its five transfer states (R41), and then the monitor is BUSY_OWN with no free
time (R42, R37). -/
def State.ticketHeld (s : State) : Bool :=
  s.engine.state.inTransfer = s.queue.active.isSome
    && (!s.engine.state.inTransfer || (s.monitor.state = .busyOwn && s.monitor.free.isNone))

/-- The engine's two lines are released in IDLE, BACKOFF and STUCK (R29). -/
def Engine.linesRight (e : Engine) : Bool :=
  match e.state with
  | .idle | .backoff | .stuck => e.sclDrive = .released && e.sdaDrive = .released
  | .address | .write | .restart | .read | .stopping | .recovery => true

/-- The bus-lost mark is set in STUCK, and elsewhere only in an attempt begun there (R67, R68, R74). -/
def Engine.markRight (e : Engine) : Bool :=
  match e.state with
  | .stuck => e.busLost
  | .recovery => true
  | .idle | .address | .write | .restart | .read | .stopping | .backoff => !e.busLost

/-- At most 9 pulses, fewer before a pulse, and none in the wait for D-SCL that begins an attempt (R63, R64). -/
def Engine.pulsesRight (e : Engine) : Bool :=
  match e.phase with
  | some .waitClock => e.pulses = 0
  | some .pulse => e.pulses ≤ 8
  | some .stop | none => e.pulses ≤ 9

/-- The engine, the monitor and the queue agree. -/
def State.busWf (s : State) : Bool :=
  s.queue.wf && s.ticketHeld && s.engine.linesRight && s.engine.markRight && s.engine.pulsesRight

/-- The whole invariant. -/
def State.wf (s : State) : Bool :=
  s.outputsRight && s.recordsWf && s.settings.wf && s.leasesWf && s.mirrorWf && s.dueMarksWf && s.portsWf && s.busWf
    && s.ticketsWf

end Sys2Proof.Machine
end

