-- ==== Sys2Proof/Certificates/Slice0/Obligations.lean ====
section
/-! DEFINITION. The statements for the provers. Those about a controller's command start where its port has handed it
to its owner (`State.hands`); `UnshownFrameStandsForFrame` carries them to a command whose frame is not shown. -/

open Sys2Proof Sys2Proof.Machine

/-! ### Steps, frames, decoding -/

/-- A step takes the command at the front of the queue; an empty queue idles (the model's choice, log 4). -/
def Obligations.StepRunsFrontCommand : Prop :=
  (∀ (i : Instr) (rest : List Instr) (s : State), step (s.setPending (i :: rest)) = exec i (s.setPending rest)) ∧
    ∀ s : State, s.pending = [] → step s = .next s

/-- No command stops the block, and none touches the queue of commands (the model's choice, log 1). In a broker reset
only its entry and its release are taken (R187: no frame is taken, no command is answered). -/
def Obligations.EveryCommandGoesOn : Prop :=
  (∀ (i : Instr) (s : State), ∃ t, exec i s = .next t ∧ t.pending = s.pending) ∧
    ∀ (i : Instr) (s : State), s.resetting ≠ none → (∀ c, i ≠ .brokerResetEntry c) →
      (∀ a b c d, i ≠ .brokerResetRelease a b c d) → exec i s = .next s

/-- The frame of every command, part by part. -/
def Obligations.FramePartByPart : Prop :=
  ∀ (i : Instr) (s t : State) (p : Part), exec i s = .next t → mayChange i p = false → p.same s t

/-- A command whose frame is not shown does what its frame and then the command do (the model's choice, log 2). -/
def Obligations.UnshownFrameStandsForFrame : Prop :=
  ∀ (i : Instr) (s : State) (o : Direct), i.request.map Prod.fst = some o → s.takesUnshown o = true →
    exec i s = exec i (s.withFrame o i) ∧ (s.withFrame o i).hands o i = true

/-- The answer to a command ends the wait for it; all but an admitted TRANSACT are answered at once. -/
def Obligations.EveryRequestIsAnswered : Prop :=
  ∀ (i : Instr) (s : State) (o : Direct), i.request.map Prod.fst = some o → s.hands o i = true →
    ∃ t, exec i s = .next t ∧ t.handedOf o = none ∧
      ((∃ status payload, t.answered o status payload) ∨
        ((∃ kf a q n data, i = .transact o kf a q n data) ∧ ∃ n limit, t.slotOf o = .onTicket n limit))

/-- The decoder reads every well-formed request's frame back as the request, from every port; a frame with its check
byte leaves the check register at 0. -/
def Obligations.RequestFramesDecode : Prop :=
  (∀ (i : Instr) (o : Direct) (code : Byte) (params : List Byte) (exact : Bool), i.wellFormed = true →
    i.request = some (o, code, params) → decodeFrame o (requestFrame code params) false false exact = .command i) ∧
    ∀ bytes : List Byte, checkByte (closeFrame bytes) = 0#8

/-- The decoder's checks in order: length, check byte, code, parameter length. -/
def Obligations.DecoderChecksInOrder : Prop :=
  (∀ (o : Direct) (bytes : List Byte) (cut oversize exact : Bool),
    bytes.length < 3 ∨ 36 < (bytes.getD 1 0#8).toNat ∨ bytes.length < (bytes.getD 1 0#8).toNat + 3 ∨ cut = true ∨
        oversize = true ∨ (exact = true ∧ (bytes.getD 1 0#8).toNat + 3 < bytes.length) →
      decodeFrame o bytes cut oversize exact = .refused .badLength) ∧
    (∀ (o : Direct) (code l : Byte) (params : List Byte) (check : Byte) (exact : Bool), l.toNat = params.length →
      params.length ≤ 36 → check ≠ checkByte (code :: l :: params) →
        decodeFrame o (code :: l :: params ++ [check]) false false exact = .refused .badCheck) ∧
    (∀ (o : Direct) (code : Byte) (params : List Byte) (exact : Bool), params.length ≤ 36 →
      code.toNat ∉ [0x10, 0x11, 0x12, 0x13, 0x20, 0x21, 0x30, 0x31, 0x40, 0x41, 0x42, 0x43, 0x44, 0x45, 0x50, 0x51,
        0x52, 0x53, 0x60] →
        decodeFrame o (requestFrame code params) false false exact = .refused .unknownCommand) ∧
    ∀ (o : Direct) (code : Byte) (params : List Byte) (exact : Bool), params.length ≤ 36 →
      (code.toNat ∈ [0x10, 0x11] ∧ params.length < 4) ∨
        (code.toNat ∈ [0x12, 0x13, 0x31, 0x41, 0x43, 0x44, 0x45, 0x50] ∧ params.length ≠ 1) ∨
        (code.toNat = 0x20 ∧ params.length ≠ 2) ∨ (code.toNat = 0x21 ∧ params.length ≠ 3) ∨
        (code.toNat = 0x30 ∧ params.length ≠ 4) ∨ (code.toNat = 0x40 ∧ params.length ≠ 15) ∨
        (code.toNat = 0x42 ∧ (params.length < 1 ∨ 8 < params.length)) ∨ (code.toNat = 0x51 ∧ params.length ≠ 5) ∨
        (code.toNat ∈ [0x52, 0x53, 0x60] ∧ params.length ≠ 0) →
      decodeFrame o (requestFrame code params) false false exact = .refused .badLength

/-! ### Tickets -/

/-- A SUBMIT that passes the checks of R5 is admitted at the tail of its origin's order and answered at once; a TRANSACT
leaves its port waiting on the ticket with the hold limit as it stands, its hold count running from the end of the block
(Port C) or from the start of a read already in HOLD (Ports A and B). The number is the first from the origin's counter
on, 255 followed by 1, that no ticket of the origin and no record in its ring carries. (The changes of the broker time
before the admission are kept in `since`: log 15.) -/
def Obligations.SubmitOrTransactAdmitsTicket : Prop :=
  (∀ (o : Direct) (kf a q n : Byte) (data : List Byte) (s : State), s.hands o (.submit o kf a q n data) = true →
    s.refusal o kf a n data = none →
    ∃ t, exec (.submit o kf a q n data) s = .next t ∧ (∀ p, p ≠ portPart o → p ≠ .queue → p.same s t) ∧
      t.queue = s.queue.withTicket o (s.newTicket (directOrigin o) (s.ticketNumber o) (s.asked kf a q n data)) ∧
      t.answered o .ok [byteOf (s.ticketNumber o), byteOf ((s.queuedOf (directOrigin o)).length + 1)]) ∧
    (∀ (o : Direct) (kf a q n : Byte) (data : List Byte) (s : State), s.hands o (.transact o kf a q n data) = true →
      s.refusal o kf a n data = none →
      ∃ t, exec (.transact o kf a q n data) s = .next t ∧ (∀ p, p ≠ portPart o → p ≠ .queue → p.same s t) ∧
        t.queue = s.queue.withTicket o
          { s.newTicket (directOrigin o) (s.ticketNumber o) (s.asked kf a q n data) with waited := true } ∧
        t.slotOf o = .onTicket (s.ticketNumber o) (s.settings.holdLimit o) ∧
        (o = .c → t.portC.hold = some ⟨s.settings.holdLimit .c, s.portC.since.getD 0⟩) ∧
        ∀ port, o = portOrigin port → (t.tw port).hold =
          if (s.tw port).target = .hold then some ⟨s.settings.holdLimit o, (s.tw port).since.getD 0⟩ else none) ∧
    ∀ (o : Direct) (s : State), 1 ≤ s.queue.counter.get o → s.queue.counter.get o ≤ 255 → s.queue.total ≤ 24 →
      (s.recOf o).ring.length ≤ 8 →
      s.ticketNumber o ∉ s.numbers o ∧
        ∃ i, s.ticketNumber o = (s.queue.counter.get o - 1 + i) % 255 + 1 ∧
          ∀ j < i, (s.queue.counter.get o - 1 + j) % 255 + 1 ∈ s.numbers o

/-- A SUBMIT or TRANSACT that fails a check is answered with the status of the first that fails, and makes no
ticket. -/
def Obligations.RefusedRequestMakesNoTicket : Prop :=
  ∀ (o : Direct) (kf a q n : Byte) (data : List Byte) (s : State) (status : Status),
    s.refusal o kf a n data = some status →
    (s.hands o (.submit o kf a q n data) = true →
      ∃ t, exec (.submit o kf a q n data) s = .next t ∧ (∀ p, p ≠ portPart o → p.same s t) ∧
        t.answered o status []) ∧
    (s.hands o (.transact o kf a q n data) = true →
      ∃ t, exec (.transact o kf a q n data) s = .next t ∧ (∀ p, p ≠ portPart o → p.same s t) ∧
        t.answered o status [])

/-- A CANCEL by the place of the ticket it names. -/
def Obligations.CancelByPlace : Prop :=
  ∀ (o : Direct) (n : Byte) (s : State), s.hands o (.cancel o n) = true →
    ∃ t, exec (.cancel o n) s = .next t ∧
      (n = 0#8 → (∀ p, p ≠ portPart o → p.same s t) ∧ t.answered o .noSuch []) ∧
      (∀ k pre post, n ≠ 0#8 → s.queuedOf (directOrigin o) = pre ++ k :: post → k.number = n.toNat →
        (∀ j ∈ pre, j.number ≠ n.toNat) → k.orphaned = false →
        t.queuedOf (directOrigin o) = pre ++ post ∧
          outcomeTaken s t o { k with acked := 0, rdata := [] } .cancelled ∧ t.answered o .ok []) ∧
      (n ≠ 0#8 → (∀ j ∈ s.queuedOf (directOrigin o), j.number ≠ n.toNat) →
        (∀ k, s.queue.active = some k → k.origin = directOrigin o → k.number = n.toNat → k.orphaned = false →
          t.queue = { s.queue with active := some { k with abort := true } } ∧ t.answered o .ok []) ∧
        ((∀ k, s.queue.active = some k → ¬(k.origin = directOrigin o ∧ k.number = n.toNat ∧ k.orphaned = false)) →
          (∀ p, p ≠ portPart o → p.same s t) ∧
            ((∃ k ∈ s.waitingOf o, k.number = n.toNat) ∨ (∃ r ∈ (s.recOf o).ring, r.number = n.toNat) →
              t.answered o .tooLate []) ∧
            ((∀ k ∈ s.waitingOf o, k.number ≠ n.toNat) → (∀ r ∈ (s.recOf o).ring, r.number ≠ n.toNat) →
              t.answered o .noSuch [])))

/-- A TICKET QUERY reports the first case of Table 1.5 that applies, and changes nothing but the answer. -/
def Obligations.TicketQueryReportsPlace : Prop :=
  ∀ (o : Direct) (n : Byte) (s : State), s.hands o (.ticketQuery o n) = true →
    ∃ t, exec (.ticketQuery o n) s = .next t ∧ (∀ p, p ≠ portPart o → p.same s t) ∧
      (∀ k pre post, s.queuedOf (directOrigin o) = pre ++ k :: post → k.number = n.toNat →
        (∀ j ∈ pre, j.number ≠ n.toNat) →
        t.answered o .ok [1#8, byteOf (pre.length + 1), if s.deferred k then 1#8 else 0#8]) ∧
      ((∀ j ∈ s.queuedOf (directOrigin o), j.number ≠ n.toNat) →
        (∀ k, s.queue.active = some k → k.origin = directOrigin o → k.number = n.toNat → k.orphaned = false →
          t.answered o .ok [2#8, 0#8, 0#8]) ∧
        ((∀ k, s.queue.active = some k → ¬(k.origin = directOrigin o ∧ k.number = n.toNat ∧ k.orphaned = false)) →
          ((∃ k ∈ s.waitingOf o, k.number = n.toNat) → t.answered o .ok [3#8, 0#8, 0#8]) ∧
          ((∀ k ∈ s.waitingOf o, k.number ≠ n.toNat) →
            (∀ r pre post, (s.recOf o).ring = pre ++ r :: post → r.number = n.toNat →
              (∀ x ∈ pre, x.number ≠ n.toNat) →
              t.answered o .ok [4#8, 0#8, if pre.length < (s.recOf o).d then 2#8 else 0#8]) ∧
            ((∀ r ∈ (s.recOf o).ring, r.number ≠ n.toNat) → t.answered o .ok [0#8, 0#8, 0#8]))))

/-! ### Records and notices -/

/-- A COLLECT with a right acknowledgement removes the first k records, refills the ring from DONE_WAITING tickets, whose
departure is a retry trigger, and delivers as many whole records from the head as n and the 72 bytes allow; any other is
refused and changes nothing. -/
def Obligations.CollectAcknowledgesAndDelivers : Prop :=
  ∀ (o : Direct) (k n : Byte) (s : State), s.hands o (.collect o k n) = true →
    (k.toNat ≤ (s.recOf o).d → n.toNat ≤ 8 →
      ∃ t m ring, exec (.collect o k n) s = .next t ∧
        ring = (s.recOf o).ring.drop k.toNat ++ ((s.waitingOf o).take k.toNat).map Ticket.waitingRecord ∧
        t.recOf o = { s.recOf o with ring := ring, d := m } ∧ t.waitingOf o = (s.waitingOf o).drop k.toNat ∧
        ((s.waitingOf o).take k.toNat ≠ [] → s.retriedTo t) ∧
        ((s.waitingOf o).take k.toNat = [] → t.dueMarks = s.dueMarks ∧ t.queuedOf .p = s.queuedOf .p) ∧
        m ≤ n.toNat ∧ m ≤ ring.length ∧ 2 + recordBytes (ring.take m) ≤ 72 ∧
        (m < n.toNat → m < ring.length → 72 < 2 + recordBytes (ring.take (m + 1))) ∧
        t.answered o .ok ([byteOf m, byteOf (ring.length - m + ((s.waitingOf o).length - k.toNat))] ++
          (ring.take m).flatMap Record.layout)) ∧
    ((s.recOf o).d < k.toNat ∨ 8 < n.toNat →
      ∃ t, exec (.collect o k n) s = .next t ∧ (∀ p, p ≠ portPart o → p.same s t) ∧ t.answered o .badParam [])

/-- A NOTICES: refused with BAD_PARAM where k exceeds e or n exceeds 16, and then nothing changes; else carried out in
the four steps of R90. -/
def Obligations.NoticesAcknowledgesAndDelivers : Prop :=
  ∀ (o : Direct) (k seen n : Byte) (s : State), s.hands o (.notices o k seen n) = true →
    ((s.recOf o).e < k.toNat ∨ 16 < n.toNat →
      ∃ t, exec (.notices o k seen n) s = .next t ∧ (∀ p, p ≠ portPart o → p.same s t) ∧ t.answered o .badParam []) ∧
    (k.toNat ≤ (s.recOf o).e → n.toNat ≤ 16 →
      ∃ t list lost m, exec (.notices o k seen n) s = .next t ∧ list = (s.recOf o).notices.drop k.toNat ∧
        lost = (if seen.getLsbD 0 then (s.recOf o).lost - (s.recOf o).reported else (s.recOf o).lost) ∧
        m = min (min n.toNat list.length) 6 ∧
        t.recOf o = { s.recOf o with notices := list, e := m, lost := lost, reported := lost } ∧
        t.answered o .ok ([byteOf m, byteOf (list.length - m), byteOf lost] ++ (list.take m).flatMap Notice.layout))

/-- A notice that arrives is merged into the undelivered notice of its kind and subject, else appended where the list
holds fewer than 16, else lost; a delivered notice is never merged into. (Of two undelivered notices of one kind and
subject the first takes the merge: the model's choice, log 29.) -/
def Obligations.NoticeMergedAppendedOrLost : Prop :=
  ∀ (r : Records) (kind : NoticeKind) (subject : Subject) (value : List Byte) (now : Time),
    (∀ pre n post, r.notices.drop r.e = pre ++ n :: post → (∀ m ∈ pre, ¬(m.kind = kind ∧ m.subject = subject)) →
      n.kind = kind → n.subject = subject →
      r.arrive kind subject value now =
        { r with
          notices := r.notices.take r.e ++ (pre ++ ⟨kind, subject, min (n.count + 1) 255, value, now⟩ :: post) }) ∧
    ((∀ m ∈ r.notices.drop r.e, ¬(m.kind = kind ∧ m.subject = subject)) →
      (r.notices.length < 16 →
        r.arrive kind subject value now = { r with notices := r.notices ++ [⟨kind, subject, 1, value, now⟩] }) ∧
      (16 ≤ r.notices.length → r.arrive kind subject value now = { r with lost := min (r.lost + 1) 255 }))

/-! ### Leases -/

/-- A LEASE by the checks of R97 in their order: granted, renewed, HELD, or refused; only the first two change the
table. (HELD with the time remaining 0 once the expiry time is reached: the model's reading of R97 and R103, log 20, by
the mark of log 3.) -/
def Obligations.LeaseGrantedRenewedOrRefused : Prop :=
  ∀ (o : Direct) (a : Byte) (d : BitVec 16) (f : Byte) (s : State), s.hands o (.lease o a d f) = true →
    ∃ t, exec (.lease o a d f) s = .next t ∧ (∀ p, p ≠ portPart o → p ≠ .leases → p.same s t) ∧
      (1 < f.toNat → t.leases = s.leases ∧ t.answered o .badParam []) ∧
      (f.toNat ≤ 1 → d.toNat < 1 ∨ 500 < d.toNat → t.leases = s.leases ∧ t.answered o .badParam []) ∧
      (f.toNat ≤ 1 → 1 ≤ d.toNat → d.toNat ≤ 500 →
        (a.toNat < 0x08 ∨ 0x77 < a.toNat → t.leases = s.leases ∧ t.answered o .badAddress []) ∧
        (0x08 ≤ a.toNat → a.toNat ≤ 0x77 →
          (∀ l pre post, s.leases = pre ++ l :: post → l.addr = a → (∀ m ∈ pre ++ post, m.addr ≠ a) →
            (l.holder ≠ o → t.leases = s.leases ∧
              t.answered o .held (directCode l.holder :: bytes16 (if l.reached then 0#16 else l.expiry - s.time))) ∧
            (l.holder = o →
              t.leases = pre ++ ⟨a, o, s.time + BitVec.ofNat 16 (d.toNat * 10), false, f = 1#8⟩ :: post ∧
                t.answered o .ok (1#8 :: bytes16 (BitVec.ofNat 16 (d.toNat * 10))))) ∧
          ((∀ m ∈ s.leases, m.addr ≠ a) →
            (s.leases.length < 8 →
              t.leases = s.leases ++ [⟨a, o, s.time + BitVec.ofNat 16 (d.toNat * 10), false, f = 1#8⟩] ∧
                t.answered o .ok (0#8 :: bytes16 (BitVec.ofNat 16 (d.toNat * 10)))) ∧
            (8 ≤ s.leases.length → t.leases = s.leases ∧ t.answered o .noRoom []))))

/-- A RELEASE by address and holder; no notice, no mark on a ticket; a removed lease defers no ticket any more. -/
def Obligations.ReleaseRemovesHoldersLease : Prop :=
  ∀ (o : Direct) (a : Byte) (s : State), s.hands o (.release o a) = true →
    ∃ t, exec (.release o a) s = .next t ∧ (∀ p, p ≠ portPart o → p ≠ .leases → p.same s t) ∧
      (a.toNat < 0x08 ∨ 0x77 < a.toNat → t.leases = s.leases ∧ t.answered o .badAddress []) ∧
      (0x08 ≤ a.toNat → a.toNat ≤ 0x77 →
        (∀ l pre post, s.leases = pre ++ l :: post → l.addr = a → (∀ m ∈ pre ++ post, m.addr ≠ a) →
          (l.holder = o → t.leases = pre ++ post ∧ t.answered o .ok [] ∧
            ∀ k : Ticket, k.addr = a → t.deferred k = false) ∧
          (l.holder ≠ o → t.leases = s.leases ∧ t.answered o .notOwner [])) ∧
        ((∀ m ∈ s.leases, m.addr ≠ a) → t.leases = s.leases ∧ t.answered o .noSuch []))

/-! ### The mirror -/

/-- A MIRROR DEFINE of an EMPTY entry, given or the first of them for index 0xFF, sets the entry; with nothing waiting
and a place for origin P its first poll is posted; with no place it waits behind every entry that waited before it (its due
mark is set at no change of the broker time: log 37). -/
def Obligations.MirrorDefineSetsEntry : Prop :=
  ∀ (o : Direct) (x f a r w : Byte) (iv : BitVec 16) (low high : Field) (s : State) (i : Nat),
    s.hands o (.mirrorDefine o x f a r w iv low high) = true → defineRefusal x f a w iv low high = none →
    s.mirror.length = 32 → s.mirror[i]? = some none →
    x.toNat = i ∨ (x = 0xFF#8 ∧ ∀ j < i, s.mirror[j]? ≠ some none) →
    ∃ t e, exec (.mirrorDefine o x f a r w iv low high) s = .next t ∧ t.answered o .ok [byteOf i] ∧
      t.entry i = some e ∧ e.asDefined o f a r w iv low high ∧ t.sameEntriesBut s i ∧
      e.subs = (if f.getLsbD 0 then PerDirect.set ⟨false, false, false⟩ o true else ⟨false, false, false⟩) ∧
      (s.dueMarks = [] → s.queue.total < 24 → s.queue.counted .p < s.settings.quota .p →
        e.posted = true ∧ t.dueMarks = [] ∧
          ∃ k, t.queuedOf .p = s.queuedOf .p ++ [k] ∧ k.number = i ∧ k.kind = .writeRead ∧ k.addr = a ∧ k.wdata = [r] ∧
            k.rlen = w.toNat ∧ k.noRetry = false ∧
            k.deadline = s.time + BitVec.ofNat 16 (min (iv.toNat * 10) 2550)) ∧
      (s.isDue i = false → 24 ≤ s.queue.total ∨ s.settings.quota .p ≤ s.queue.counted .p →
        e.posted = false ∧ t.dueMarks = s.dueMarks ++ [⟨i, false⟩] ∧ t.queue = s.queue)

/-- A MIRROR DEFINE of an entry of the requester sets the entry anew, keeps its subscribers, and removes a QUEUED
poll ticket of it or orphans an ACTIVE one. The entry is due at once: it waits with its due mark set, behind every other
entry that waits (log 37), or, with nothing else waiting and a place for origin P, its new first poll is posted. -/
def Obligations.MirrorRedefineKeepsSubscribers : Prop :=
  ∀ (o : Direct) (x f a r w : Byte) (iv : BitVec 16) (low high : Field) (s : State) (old : Entry),
    s.hands o (.mirrorDefine o x f a r w iv low high) = true → defineRefusal x f a w iv low high = none →
    x ≠ 0xFF#8 → s.entry x.toNat = some old → old.owner = o →
    ∃ t e, exec (.mirrorDefine o x f a r w iv low high) s = .next t ∧ t.answered o .ok [x] ∧
      t.entry x.toNat = some e ∧ e.asDefined o f a r w iv low high ∧ t.sameEntriesBut s x.toNat ∧
      e.subs = (if f.getLsbD 0 then old.subs.set o true else old.subs) ∧ t.records = s.records ∧
      (e.posted = !t.isDue x.toNat) ∧
      (∀ k pre post, s.queuedOf .p = pre ++ k :: post → k.number = x.toNat → (∀ j ∈ pre, j.number ≠ x.toNat) →
        t.queue.active = s.queue.active ∧ (∃ posts, t.queuedOf .p = pre ++ post ++ posts) ∧
        ((∀ m ∈ s.dueMarks, m.index = x.toNat) → s.queue.total ≤ 24 → s.queue.counted .p ≤ s.settings.quota .p →
          e.posted = true ∧ t.queuedOf .p = pre ++ post ++ [s.pollTicket x.toNat e])) ∧
      ((∀ k ∈ s.queuedOf .p, k.number ≠ x.toNat) →
        (∀ k, s.queue.active = some k → k.origin = .p → k.number = x.toNat →
          t.queue.active = some { k with orphaned := true }) ∧
        ((∀ m ∈ s.dueMarks, m.index = x.toNat) → s.queue.total < 24 → s.queue.counted .p < s.settings.quota .p →
          e.posted = true ∧ t.queuedOf .p = s.queuedOf .p ++ [s.pollTicket x.toNat e]) ∧
        ((∀ k, s.queue.active = some k → k.origin = .p → k.number ≠ x.toNat) →
          24 ≤ s.queue.total ∨ s.settings.quota .p ≤ s.queue.counted .p →
          e.posted = false ∧ t.dueMarks = s.dueMarks.filter (fun m => m.index ≠ x.toNat) ++ [⟨x.toNat, false⟩] ∧
            t.queue = s.queue))

/-- A MIRROR DEFINE is refused by the checks of R111 in their order, and then nothing changes but
the port. -/
def Obligations.MirrorDefineRefusals : Prop :=
  ∀ (o : Direct) (x f a r w : Byte) (iv : BitVec 16) (low high : Field) (s : State),
    s.hands o (.mirrorDefine o x f a r w iv low high) = true →
    ∃ t, exec (.mirrorDefine o x f a r w iv low high) s = .next t ∧
      (∀ status, defineRefusal x f a w iv low high = some status →
        (∀ p, p ≠ portPart o → p.same s t) ∧ t.answered o status []) ∧
      (defineRefusal x f a w iv low high = none →
        (x = 0xFF#8 → (∀ e ∈ s.mirror, e ≠ none) →
          (∀ p, p ≠ portPart o → p.same s t) ∧ t.answered o .noRoom []) ∧
        (∀ old, x ≠ 0xFF#8 → s.entry x.toNat = some old → old.owner ≠ o →
          (∀ p, p ≠ portPart o → p.same s t) ∧ t.answered o .notOwner []))

/-- A MIRROR DROP by its cases: a drop empties the entry, tells its subscribers other than the owner, and removes a
QUEUED poll ticket of it, whose departure is a retry trigger, or orphans an ACTIVE one. -/
def Obligations.MirrorDropEmptiesEntry : Prop :=
  ∀ (o : Direct) (x : Byte) (s : State), s.hands o (.mirrorDrop o x) = true →
    ∃ t, exec (.mirrorDrop o x) s = .next t ∧
      (31 < x.toNat → (∀ p, p ≠ portPart o → p.same s t) ∧ t.answered o .badParam []) ∧
      (x.toNat ≤ 31 → s.entry x.toNat = none →
        (∀ p, p ≠ portPart o → p.same s t) ∧ t.answered o .noSuch []) ∧
      (∀ e, x.toNat ≤ 31 → s.entry x.toNat = some e → e.owner ≠ o →
        (∀ p, p ≠ portPart o → p.same s t) ∧ t.answered o .notOwner []) ∧
      (∀ e, x.toNat ≤ 31 → s.entry x.toNat = some e → e.owner = o →
        t.entry x.toNat = none ∧ t.isDue x.toNat = false ∧ t.sameEntriesBut s x.toNat ∧ t.answered o .ok [] ∧
          (∀ q, t.recOf q = if e.subs.get q = true ∧ q ≠ o then
            (s.recOf q).arrive .entryDropped (.entry x.toNat) [] s.time else s.recOf q) ∧
          (∀ k pre post, s.queuedOf .p = pre ++ k :: post → k.number = x.toNat → (∀ j ∈ pre, j.number ≠ x.toNat) →
            t.queue.active = s.queue.active ∧
              (((s.setQueued .p (pre ++ post)).setEntry x.toNat none).setDueMarks
                (s.dueMarks.filter fun m => m.index ≠ x.toNat)).retriedTo t) ∧
          ((∀ k ∈ s.queuedOf .p, k.number ≠ x.toNat) →
            t.queuedOf .p = s.queuedOf .p ∧ t.dueMarks = s.dueMarks.filter (fun m => m.index ≠ x.toNat) ∧
              ∀ k, s.queue.active = some k → k.origin = .p → k.number = x.toNat →
                t.queue.active = some { k with orphaned := true }))

/-- A MIRROR READ of 1 to 8 indices up to 31 carries an item for each, in order; an index above 31 refuses it all, as does
no index or more than 8 of them. -/
def Obligations.MirrorReadCarriesItems : Prop :=
  ∀ (o : Direct) (xs : List Byte) (s : State), s.hands o (.mirrorRead o xs) = true →
    ∃ t, exec (.mirrorRead o xs) s = .next t ∧ (∀ p, p ≠ portPart o → p.same s t) ∧
      (xs.length = 0 ∨ 8 < xs.length → t.answered o .badLength []) ∧
      (1 ≤ xs.length → xs.length ≤ 8 → (∃ x ∈ xs, 31 < x.toNat) → t.answered o .badParam []) ∧
      (1 ≤ xs.length → xs.length ≤ 8 → (∀ x ∈ xs, x.toNat ≤ 31) →
        t.answered o .ok (byteOf xs.length :: xs.flatMap fun x =>
          match s.entry x.toNat with
          | none => [0#8, 0xFF#8, 0xFF#8, 0#8]
          | some e =>
            match e.value with
            | none => [byteOf e.status.code, 0xFF#8, 0xFF#8, 0#8]
            | some v => [byteOf e.status.code] ++ bytes16 (BitVec.ofNat 16 e.age) ++ [byteOf e.width] ++ v))

/-- SUBSCRIBE and UNSUBSCRIBE change the requester's place among an entry's subscribers and nothing else of the
mirror. -/
def Obligations.SubscriptionsChangeSubscribers : Prop :=
  ∀ (o : Direct) (x : Byte) (s : State) (i : Instr) (on : Bool),
    (i = .subscribe o x ∧ on = true) ∨ (i = .unsubscribe o x ∧ on = false) → s.hands o i = true →
    ∃ t, exec i s = .next t ∧ (∀ p, p ≠ portPart o → p ≠ .mirror → p.same s t) ∧
      (31 < x.toNat → t.mirror = s.mirror ∧ t.answered o .badParam []) ∧
      (x.toNat ≤ 31 → s.entry x.toNat = none → t.mirror = s.mirror ∧ t.answered o .noSuch []) ∧
      (∀ e, x.toNat ≤ 31 → s.entry x.toNat = some e →
        t.entry x.toNat = some { e with subs := e.subs.set o on } ∧ (∀ j, j ≠ x.toNat → t.entry j = s.entry j) ∧
          t.answered o .ok [])

/-- A REFRESH posts a poll ticket at once unless one is posted, and answers the queue's refusal where it is refused. -/
def Obligations.RefreshPostsOnce : Prop :=
  ∀ (o : Direct) (x : Byte) (s : State), s.hands o (.refresh o x) = true →
    ∃ t, exec (.refresh o x) s = .next t ∧ t.records = s.records ∧
      (31 < x.toNat → (∀ p, p ≠ portPart o → p.same s t) ∧ t.answered o .badParam []) ∧
      (x.toNat ≤ 31 → s.entry x.toNat = none → (∀ p, p ≠ portPart o → p.same s t) ∧ t.answered o .noSuch []) ∧
      (∀ e, x.toNat ≤ 31 → s.entry x.toNat = some e →
        (e.posted = true → (∀ p, p ≠ portPart o → p.same s t) ∧ t.answered o .ok [1#8]) ∧
        (e.posted = false →
          (24 ≤ s.queue.total → (∀ p, p ≠ portPart o → p.same s t) ∧ t.answered o .refusedFull []) ∧
          (s.queue.total < 24 → s.settings.quota .p ≤ s.queue.counted .p →
            (∀ p, p ≠ portPart o → p.same s t) ∧ t.answered o .refusedQuota []) ∧
          (s.queue.total < 24 → s.queue.counted .p < s.settings.quota .p →
            t.entry x.toNat = some { e with posted := true } ∧ (∀ j, j ≠ x.toNat → t.entry j = s.entry j) ∧
              t.isDue x.toNat = false ∧ t.answered o .ok [0#8] ∧
              ∃ k, t.queuedOf .p = s.queuedOf .p ++ [k] ∧ k.number = x.toNat ∧ k.addr = e.addr ∧ k.wdata = [e.reg] ∧
                k.rlen = e.width ∧ k.kind = .writeRead ∧ k.noRetry = false ∧ k.submit = s.time ∧
                k.deadline = s.time + BitVec.ofNat 16 (min (e.interval * 10) 2550))))

/-- A failed poll raises the fail count, and the third in a row brings the entry into FAULT with one notice to each
subscriber; the next due time follows the status. A poll result that is neither success nor failure leaves the entry but
for its next due time, one interval from now, and tells no one. -/
def Obligations.OtherPollResultsReachEntry : Prop :=
  (∀ (s : State) (i : Nat) (e : Entry) (v : List Byte) (r : Result), s.entry i = some e →
    r = .noDevice ∨ r = .dataNack ∨ r = .stretchTimeout ∨ r = .transactionTimeout →
    ∃ e', (s.pollResult i r v).entry i = some e' ∧ e'.fails = min (e.fails + 1) 3 ∧ e'.value = e.value ∧ e'.age = e.age ∧
      e'.range = e.range ∧ e'.posted = false ∧ (∀ j, j ≠ i → (s.pollResult i r v).entry j = s.entry j) ∧
      (2 ≤ e.fails → e'.status = .fault) ∧ (e.fails < 2 → e'.status = e.status) ∧
      (e'.status = .fault → e'.due = s.time + BitVec.ofNat 16 (min (8 * (e.interval * 10)) 60000)) ∧
      (e'.status ≠ .fault → e'.due = s.time + BitVec.ofNat 16 (e.interval * 10)) ∧
      ∀ q, (s.pollResult i r v).recOf q =
        if e.subs.get q = true ∧ 2 ≤ e.fails ∧ e.status ≠ .fault then
          (s.recOf q).arrive .entryFault (.entry i) [] s.time
        else s.recOf q) ∧
    ∀ (s : State) (i : Nat) (e : Entry) (v : List Byte) (r : Result), s.entry i = some e →
      r = .expired ∨ r = .arbLost ∨ r = .misplacedCondition →
      (s.pollResult i r v).entry i =
          some { e with due := s.time + BitVec.ofNat 16 (e.interval * 10), dueReached := false, posted := false } ∧
        (s.pollResult i r v).records = s.records ∧ ∀ j, j ≠ i → (s.pollResult i r v).entry j = s.entry j

/-- A DONE poll stores its bytes, makes the entry FRESH with age 0, classes the number against the limits, and sends
VALUE_CHANGED, ENTRY_RECOVERED and LIMIT_CROSSED, in that order, as they apply. -/
def Obligations.DonePollFreshensEntry : Prop :=
  ∀ (s : State) (i : Nat) (e : Entry) (v : List Byte) (number : Nat), s.entry i = some e →
    number = (if e.msbFirst then v.foldl (fun n b => 256 * n + b.toNat) 0
      else v.reverse.foldl (fun n b => 256 * n + b.toNat) 0) →
    ∃ e', (s.pollResult i .done v).entry i = some e' ∧ e'.status = .fresh ∧ e'.value = some v ∧ e'.age = 0 ∧
      e'.fails = 0 ∧ e'.due = s.time + BitVec.ofNat 16 (e.interval * 10) ∧ e'.posted = false ∧
      (∀ j, j ≠ i → (s.pollResult i .done v).entry j = s.entry j) ∧
      ((∃ l, e.low = some l ∧ number < l) → e'.range = .below) ∧
      ((∀ l, e.low = some l → l ≤ number) → (∃ h, e.high = some h ∧ h < number) → e'.range = .above) ∧
      ((∀ l, e.low = some l → l ≤ number) → (∀ h, e.high = some h → number ≤ h) → e'.range = .inRange) ∧
      ∀ q, (s.pollResult i .done v).recOf q =
        (let r1 := if e.subs.get q = true ∧ (e.value = none ∨ e.status = .pendingFirst ∨ e.value ≠ some v) then
            (s.recOf q).arrive .valueChanged (.entry i) v s.time else s.recOf q
         let r2 := if e.subs.get q = true ∧ e.status = .fault then
            r1.arrive .entryRecovered (.entry i) [] s.time else r1
         if e.subs.get q = true ∧ e'.range ≠ e.range then
            r2.arrive .limitCrossed (.entry i) [byteOf e'.range.code] s.time else r2)

/-! ### Settings, STATUS, resets -/

/-- A SETTING READ answers the value field as it stands, or BAD_PARAM for a number above 12, and changes nothing; after
a write of that setting it answers the written value. -/
def Obligations.SettingReadAnswersValue : Prop :=
  (∀ (o : Direct) (n : Byte) (s : State), s.hands o (.settingRead o n) = true →
    ∃ t, exec (.settingRead o n) s = .next t ∧ (∀ p, p ≠ portPart o → p.same s t) ∧
      (12 < n.toNat → t.answered o .badParam []) ∧
      (n.toNat ≤ 12 → ∃ v, s.settings.get n.toNat = some v ∧
        t.answered o .ok [v.extractLsb' 0 8, v.extractLsb' 8 8, v.extractLsb' 16 8, v.extractLsb' 24 8])) ∧
    ∀ (x : Settings) (n : Nat) (v : Field), n ≤ 12 → (x.set n v).get n = some v ∧
      ∀ m, m ≠ n → (x.set n v).get m = x.get m

/-- A SETTING WRITE out of range is refused and changes nothing; one in range replaces the stored value, and, where it
is a change, tells the two other origins and not the writer. One of the value already stored changes nothing. A write that
changes P's quota is a retry trigger; one that changes the idle-detect time frees the bus where the idle count is past the
new value. The ranges are those of Table 10.1. -/
def Obligations.SettingWriteStoresAndTells : Prop :=
  (∀ (o : Direct) (n : Byte) (v : Field) (s : State), s.hands o (.settingWrite o n v) = true →
    ∃ t, exec (.settingWrite o n v) s = .next t ∧
      (settingInRange n.toNat v = false → (∀ p, p ≠ portPart o → p.same s t) ∧ t.answered o .badParam []) ∧
      (settingInRange n.toNat v = true → t.settings = s.settings.set n.toNat v ∧ t.answered o .ok [] ∧
        (s.settings.get n.toNat = some v → ∀ p, p ≠ portPart o → p.same s t) ∧
        (n ≠ 4#8 ∨ s.settings.idleDetect = v ∨ s.monitor.idle.any (fun k => v.toNat < k) = false →
          t.monitor = s.monitor ∧ t.engine = s.engine ∧ ∀ q, t.recOf q =
            if q ≠ o ∧ s.settings.get n.toNat ≠ some v then
              (s.recOf q).arrive .settingChanged (.setting n.toNat) [] s.time
            else s.recOf q) ∧
        (n = 4#8 → s.settings.idleDetect ≠ v → s.monitor.idle.any (fun k => v.toNat < k) = true →
          s.engine.state.inTransfer = false → t.monitor.state = .free) ∧
        (n = 8#8 → fieldByte v 3 ≠ fieldByte s.settings.quotas 3 → s.retriedTo t) ∧
        (n ≠ 8#8 ∨ fieldByte v 3 = fieldByte s.settings.quotas 3 →
          t.queue = s.queue ∧ t.mirror = s.mirror ∧ t.dueMarks = s.dueMarks))) ∧
    ∀ (n : Nat) (v : Field), settingInRange n v =
      (if n = 0 then v.toNat = 100 ∨ v.toNat = 400 else if n = 1 then 1 ≤ v.toNat ∧ v.toNat ≤ 50
        else if n = 2 then 5 ≤ v.toNat ∧ v.toNat ≤ 200 else if n = 3 then v.toNat ≤ 7
        else if n = 4 then 1 ≤ v.toNat ∧ v.toNat ≤ 50 else if n = 5 then 10 ≤ v.toNat ∧ v.toNat ≤ 500
        else if n = 6 then 50 ≤ v.toNat ∧ v.toNat ≤ 2000 else if n = 7 then 1 ≤ v.toNat ∧ v.toNat ≤ 255
        else if n = 8 then ∀ k < 4, 1 ≤ (fieldByte v k).toNat ∧ (fieldByte v k).toNat ≤ 16
        else if n = 9 then ∀ k < 4, 1 ≤ (fieldByte v k).toNat ∧ (fieldByte v k).toNat ≤ 4
        else if n = 10 then (∀ k < 3, 1 ≤ (fieldByte v k).toNat ∧ (fieldByte v k).toNat ≤ 50) ∧ fieldByte v 3 = 0#8
        else if n = 11 then (∀ k < 3, (fieldByte v k).toNat ≤ 1) ∧ fieldByte v 3 = 0#8
        else if n = 12 then 2 ≤ v.toNat ∧ v.toNat ≤ 255 else False : Prop)

/-- STATUS reports each owner's values as they stand and changes nothing. -/
def Obligations.StatusReportsState : Prop :=
  ∀ (o : Direct) (s : State), s.hands o (.status o) = true →
    ∃ t, exec (.status o) s = .next t ∧ (∀ p, p ≠ portPart o → p.same s t) ∧
      t.answered o .ok
        [s.time.extractLsb' 0 8, s.time.extractLsb' 8 8, (if s.cause = .powerOn then 1#8 else 2#8), byteOf s.adsel,
         byteOf (s.queue.counted .a), byteOf (s.queue.counted .b), byteOf (s.queue.counted .c),
         byteOf (s.queue.counted .p), byteOf s.queue.total, byteOf s.engine.state.code, byteOf s.monitor.state.code,
         byteOf s.leases.length, byteOf (s.mirror.filter Option.isSome).length, byteOf (s.recOf o).d,
         byteOf (s.recOf o).e, byteOf (s.recOf o).lost]

/-- An ORIGIN RESET clears what the part holds for its origin: tickets, counter, records, leases, entries and
subscriptions; its ACTIVE ticket is orphaned with abort requested. The QUEUED poll tickets of the entries it owned are
removed and an ACTIVE one is orphaned without abort; each other subscriber is told of each of these entries, in index
order (the model's choice, log 35). The other origins keep their leases and tickets. -/
def Obligations.OriginResetClearsOrigin : Prop :=
  ∀ (o : Direct) (s : State), s.hands o (.originReset o) = true → s.mirror.length ≤ 32 →
    ∃ t, exec (.originReset o) s = .next t ∧ t.answered o .ok [] ∧ t.recOf o = Records.empty ∧
      t.queuedOf (directOrigin o) = [] ∧ t.waitingOf o = [] ∧ t.queue.counter.get o = 1 ∧
      (∀ k, s.queue.active = some k → k.origin = directOrigin o →
        t.queue.active = some { k with orphaned := true, abort := true, waited := false }) ∧
      t.leases = s.leases.filter (fun l => l.holder ≠ o) ∧
      (∀ i e, t.entry i = some e → e.owner ≠ o ∧ e.subs.get o = false) ∧
      (∀ i e, s.entry i = some e → e.owner ≠ o → ∃ posted, t.entry i =
        some { e with subs := e.subs.set o false, posted := posted }) ∧
      (∀ q, q ≠ o → t.queuedOf (directOrigin q) = s.queuedOf (directOrigin q) ∧ t.waitingOf q = s.waitingOf q ∧
        t.queue.counter.get q = s.queue.counter.get q ∧
        t.recOf q = (List.range 32).foldl (fun r i =>
          match s.entry i with
          | some e => if e.owner = o ∧ e.subs.get q = true then r.arrive .entryDropped (.entry i) [] s.time else r
          | none => r) (s.recOf q)) ∧
      (s.pollsWf = true → s.dueMarksWf = true →
        (∃ posts, t.queuedOf .p = (s.queuedOf .p).filter (fun k => (s.entry k.number).all fun e => e.owner ≠ o) ++ posts ∧
          ∀ k ∈ posts, t.entry k.number ≠ none) ∧
        ∀ k, s.queue.active = some k → k.origin = .p → k.orphaned = false →
          t.queue.active = some { k with orphaned := (s.entry k.number).any fun e => e.owner = o }) ∧
      t.queue.current = s.queue.current ∧ t.queue.credit = s.queue.credit

/-- A BUS RECOVER by Table 3.2: "free", "attempt started", BUSY, or "in progress"; only an attempt that starts changes
the engine. -/
def Obligations.BusRecoverByState : Prop :=
  ∀ (o : Direct) (s : State), s.hands o (.busRecover o) = true →
    ∃ t, exec (.busRecover o) s = .next t ∧
      (s.engine.state = .idle → s.monitor.state = .free ∨ s.monitor.state = .busyOwn →
        (∀ p, p ≠ portPart o → p.same s t) ∧ t.answered o .ok [0#8]) ∧
      ((s.engine.state = .idle ∧ s.monitor.state = .unknown) ∨ s.engine.state = .stuck →
        t.engine.state = .recovery ∧ t.engine.retry = none ∧ t.monitor.held = none ∧ t.engine.pulses = 0 ∧
          t.engine.stuckLimit = s.settings.stuckLimit.toNat ∧ t.engine.busLost = s.engine.busLost ∧
          t.records = s.records ∧ t.answered o .ok [1#8]) ∧
      ((s.engine.state = .idle ∧ s.monitor.state = .busyForeign) ∨
          s.engine.state ∈ [EngineState.address, .write, .restart, .read, .stopping, .backoff] →
        (∀ p, p ≠ portPart o → p.same s t) ∧ t.answered o .busy []) ∧
      (s.engine.state = .recovery → (∀ p, p ≠ portPart o → p.same s t) ∧ t.answered o .ok [2#8])

/-! ### Ports -/

/-- The eighth bit of an address byte: another address leads to IGNORE, the own address to RECEIVE with an empty buffer,
to SEND, or, where the slot waits, to HOLD, from where a TRANSACT's hold count is measured. The own address alone is
acknowledged. (In SEND once the response has been read in full: the model's choice, log 16; the time of a hold before an
admission is kept in `since`: log 15.) -/
def Obligations.AddressByteChoosesTarget : Prop :=
  ∀ (port : TwPort) (b : Byte) (s : State), s.resetting = none →
    (s.tw port).target = .idle ∨ (s.tw port).target = .address ∨ (s.tw port).target = .ignore ∨
      ((s.tw port).target = .send ∧ (s.tw port).slot = .empty) →
    ∃ t, exec (.upstreamAddressByte port b) s = .next t ∧ (t.tw port).slot = (s.tw port).slot ∧
      Tw.addressAck (0x4C + s.adsel) b = (if b.toNat / 2 = 0x4C + s.adsel then .low else .released) ∧
      (b.toNat / 2 ≠ 0x4C + s.adsel → (t.tw port).target = .ignore) ∧
      (b.toNat / 2 = 0x4C + s.adsel →
        (b.toNat % 2 = 0 → (t.tw port).target = .receive ∧ (t.tw port).buffer = [] ∧ (t.tw port).oversize = false) ∧
        (b.toNat % 2 = 1 → (t.tw port).pos = 0 ∧
          (∀ f, (s.tw port).slot = .ready f → (t.tw port).target = .send ∧ (t.tw port).out = f) ∧
          ((s.tw port).slot = .empty → (t.tw port).target = .send ∧ (t.tw port).out = responseFrame .noRequest []) ∧
          ((s.tw port).slot = .waiting → (t.tw port).target = .hold ∧ (t.tw port).sclDrive = .low ∧
            (t.tw port).since = some 0) ∧
          (∀ n limit, (s.tw port).slot = .onTicket n limit → (t.tw port).target = .hold ∧
            (t.tw port).sclDrive = .low ∧ (t.tw port).hold = some ⟨limit, 0⟩)))

/-- The end of a write transfer: without bytes the slot stays; else the bytes replace the slot, which then waits for the
owner of the command they carry, or holds the decoder's refusal. A slot that waited on a ticket waits no more, and the
queue is told, be the ticket QUEUED or ACTIVE. In the transfer the first 39 bytes are acknowledged and no bit else is
driven. (A transfer with bytes ends once the command before has been taken: the model's choice, log 2.) -/
def Obligations.WriteTransferHandsFrame : Prop :=
  ∀ (port : TwPort) (bytes : List Byte) (c : Cond) (s : State), s.resetting = none →
    (s.tw port).target = .receive → bytes = [] ∨ (s.tw port).handed = none →
    (∀ before bit, (s.tw port).sdaIn before bit = if bit = 8 ∧ before < 39 then .low else .released) ∧
    ∃ t, exec (.writeTransferEnd port bytes c) s = .next t ∧
      (t.tw port).target = (match c with | .start => .address | .stop => .idle) ∧
      (t.tw port).buffer = bytes.take 39 ∧ (t.tw port).oversize = decide (39 < bytes.length) ∧
      (bytes = [] → (t.tw port).slot = (s.tw port).slot ∧ (t.tw port).handed = (s.tw port).handed ∧
        t.queue = s.queue) ∧
      (bytes ≠ [] →
        (∀ i, decodeFrame (portOrigin port) (bytes.take 39) false (decide (39 < bytes.length)) true = .command i →
          (t.tw port).slot = .waiting ∧ (t.tw port).handed = some i) ∧
        (∀ st, decodeFrame (portOrigin port) (bytes.take 39) false (decide (39 < bytes.length)) true = .refused st →
          t.answered (portOrigin port) st []) ∧
        ∀ n limit, (s.tw port).slot = .onTicket n limit →
          t.queuedOf (directOrigin (portOrigin port)) = (s.queuedOf (directOrigin (portOrigin port))).map (fun k =>
            if k.number = n then { k with waited := false } else k) ∧
          ∀ k, s.queue.active = some k → k.origin = directOrigin (portOrigin port) → k.number = n →
            t.queue.active = some { k with waited := false })

/-- A condition inside a byte in RECEIVE discards the bytes and leaves the slot and its wait as they were; a STOP in
IGNORE, inside an address byte or after a response read in full (the model's choice, log 16) leads to IDLE and leaves the
slot. -/
def Obligations.AbortedTransfersLeaveSlot : Prop :=
  (∀ (port : TwPort) (c : Cond) (s : State), s.resetting = none → (s.tw port).target = .receive →
    ∃ t, exec (.writeTransferAbort port c) s = .next t ∧ (t.tw port).buffer = [] ∧
      (t.tw port).slot = (s.tw port).slot ∧ (t.tw port).hold = (s.tw port).hold ∧
      (t.tw port).handed = (s.tw port).handed ∧ t.queue = s.queue ∧
      (t.tw port).target = (match c with | .start => .address | .stop => .idle)) ∧
    ∀ (port : TwPort) (s : State), s.resetting = none →
      (s.tw port).target = .ignore ∨ (s.tw port).target = .address ∨
        ((s.tw port).target = .send ∧ (s.tw port).slot = .empty) →
      ∃ t, exec (.upstreamStop port) s = .next t ∧ (t.tw port).target = .idle ∧ (t.tw port).slot = (s.tw port).slot

/-- A response read through its check byte empties the slot; a read that ends before leaves it as it was with the read
position 0; a read of an EMPTY slot sends the NO_REQUEST frame and leaves it EMPTY. A byte sent is driven bit by bit, most
significant first, low for a 0, and its acknowledge bit is left to the controller. (In the 0xFF tail of a response read in
full, that the same command ends the tail, log 16, and that the read position is then 0, log 40, are the model's
choices.) -/
def Obligations.ReadsOfSlot : Prop :=
  (∀ (port : TwPort) (ack : Bool) (f : List Byte) (s : State), s.resetting = none → (s.tw port).target = .send →
    (s.tw port).slot = .ready f →
    ∃ t, exec (.responseReadComplete port ack) s = .next t ∧ (t.tw port).slot = .empty ∧
      (t.tw port).target = (if ack then .send else .ignore) ∧ (ack = true → (t.tw port).nextByte = 0xFF#8)) ∧
    (∀ (port : TwPort) (how : ReadEnd) (s : State), s.resetting = none → (s.tw port).target = .send →
      ∃ t, exec (.readEndedEarly port how) s = .next t ∧ (t.tw port).slot = (s.tw port).slot ∧ (t.tw port).pos = 0 ∧
        (t.tw port).target = (match how with | .nack => .ignore | .start => .address | .stop => .idle)) ∧
    (∀ (port : TwPort) (ack : Bool) (s : State), s.resetting = none → (s.tw port).target = .send →
      (s.tw port).slot = .empty → (s.tw port).pos = 0 → (s.tw port).out = responseFrame .noRequest [] →
      ∃ t, exec (.noRequest port ack) s = .next t ∧ (t.tw port).slot = .empty ∧
        (t.tw port).target = (if ack then .send else .ignore) ∧ (ack = true → (t.tw port).nextByte = 0xFF#8) ∧
        (s.tw port).out = [0x23#8, 0#8, checkByte [0x23#8, 0#8]]) ∧
    ∀ (p : Tw) (n bit : Nat), p.target = .send →
      p.sdaIn n 8 = .released ∧
        (bit < 8 → p.sdaIn n bit = if (p.out.getD (p.pos + n) 0xFF#8).getLsbD (7 - bit) then .released else .low)

/-- A hold count that runs out makes PENDING with the ticket's number READY, tells the queue, be the ticket QUEUED or
ACTIVE, and ends a hold. Port C's is measured from the end of the block that hands the TRANSACT over. (The time before the
admission is kept in `since`: log 15.) -/
def Obligations.HoldLimitMakesPending : Prop :=
  (∀ (port : TwPort) (n limit : Nat) (c : Count) (s : State), s.resetting = none →
    (s.tw port).slot = .onTicket n limit → (s.tw port).hold = some c → c.limit + 1 ≤ c.changes →
    ∃ t, exec (.holdLimitExpiry port) s = .next t ∧ t.answered (portOrigin port) .pending [byteOf n] ∧
      (t.tw port).hold = none ∧
      ((s.tw port).target = .hold → (t.tw port).target = .send ∧ (t.tw port).pos = 0 ∧
        (t.tw port).sclDrive = .released) ∧
      t.queuedOf (directOrigin (portOrigin port)) = (s.queuedOf (directOrigin (portOrigin port))).map (fun k =>
        if k.number = n then { k with waited := false } else k) ∧
      (∀ k, s.queue.active = some k → k.origin = directOrigin (portOrigin port) → k.number = n →
        t.queue.active = some { k with waited := false })) ∧
    (∀ (n limit : Nat) (c : Count) (s : State), s.resetting = none → s.portC.slot = .onTicket n limit →
      s.portC.hold = some c → c.limit + 1 ≤ c.changes →
      ∃ t, exec .portCHoldExpiry s = .next t ∧ t.answered .c .pending [byteOf n] ∧ t.portC.hold = none ∧
        t.queuedOf .c = (s.queuedOf .c).map (fun k => if k.number = n then { k with waited := false } else k) ∧
        (∀ k, s.queue.active = some k → k.origin = .c → k.number = n →
          t.queue.active = some { k with waited := false })) ∧
    ∀ (bytes : List Byte) (bits : Nat) (i : Instr) (s t : State), s.portC.handed = none →
      exec (.blockEnd bytes bits) s = .next t → t.portC.handed = some i → t.portC.since = some 0

/-- A block begins with the gap setting, the lead byte and the output of Table 9.2; a READY response leaves the slot,
and C-READY falls. C-DO carries the bytes bit by bit, most significant first, high for a 1 and low for a 0; it is high at
the first bit of a lead byte, and between blocks. (The pin is shown at the first bit: the model's choice, log 22.) -/
def Obligations.BlockStartChoosesLead : Prop :=
  ∀ (s : State), s.resetting = none → s.portC.inBlock = false →
    ∃ t, exec .blockStart s = .next t ∧ t.portC.inBlock = true ∧ t.portC.gap = some s.settings.gap.toNat ∧
      t.portC.buffer = [] ∧ t.portC.bytes = 0 ∧ t.portC.bits = 0 ∧ t.pins.cReady = .low ∧ t.pins.cDo = .high ∧
      (∀ k bit, s.portC.doIn k bit = .high ∧
        (bit < 8 → t.portC.doIn k bit = if (t.portC.sentByte k).getLsbD (7 - bit) then .high else .low)) ∧
      (∀ f, s.portC.slot = .ready f → t.portC.slot = .empty ∧ t.portC.discarded = false ∧
        t.portC.sentByte 0 = (if s.portC.discarded then 0xA4#8 else 0xA5#8) ∧
        ∀ k, t.portC.sentByte (k + 1) = f.getD k 0xFF#8) ∧
      (s.portC.slot = .waiting ∨ (∃ n limit, s.portC.slot = .onTicket n limit) →
        t.portC.slot = s.portC.slot ∧ ∀ k, t.portC.sentByte k = 0xFE#8) ∧
      (s.portC.slot = .empty → t.portC.slot = .empty ∧ ∀ k, t.portC.sentByte k = 0xFF#8)

/-- A block that ends hands its request over, in the first case of R165 that applies, or discards it where the block
began with the slot WAITING; C-DO is high. (A block with a complete byte ends once the owner has taken the command of the
block before: log 42.) -/
def Obligations.BlockEndTakesOrDiscards : Prop :=
  (∀ (bytes : List Byte) (bits : Nat) (s : State), bytes ≠ [] → s.portC.handed ≠ none →
    exec (.blockEnd bytes bits) s = .next s) ∧
  ∀ (bytes : List Byte) (bits : Nat) (s : State), s.resetting = none → s.portC.inBlock = true → bits < 8 →
    bytes = [] ∨ s.portC.handed = none →
    ∃ t, exec (.blockEnd bytes bits) s = .next t ∧ t.portC.inBlock = false ∧ t.portC.bytes = bytes.length ∧
      t.portC.out = none ∧ t.pins.cDo = .high ∧
      (bytes = [] → t.portC.slot = s.portC.slot ∧ t.portC.discarded = s.portC.discarded) ∧
      (bytes ≠ [] → s.portC.lead = some 0xFE#8 →
        t.portC.slot = s.portC.slot ∧ t.portC.discarded = true ∧ t.portC.hold = s.portC.hold ∧ t.queue = s.queue) ∧
      (s.portC.lead ≠ some 0xFE#8 → ∀ l rest (b : Byte),
        (bytes = [b] → t.answered .c .badLength []) ∧
        (bytes = b :: l :: rest → 36 < l.toNat → t.answered .c .badLength []) ∧
        (bytes = b :: l :: rest → l.toNat ≤ 36 → bytes.length < l.toNat + 3 → t.answered .c .badLength []) ∧
        (bytes = b :: l :: rest → l.toNat ≤ 36 → l.toNat + 3 ≤ bytes.length →
          (∀ i, decodeFrame .c (bytes.take (l.toNat + 3)) false false true = .command i →
            t.portC.slot = .waiting ∧ t.portC.handed = some i) ∧
          (∀ st, decodeFrame .c (bytes.take (l.toNat + 3)) false false true = .refused st → t.answered .c st [])))

/-! ### The scheduler and the engine -/

/-- The scheduler's choice: the current origin's eligible ticket while it has credit, else the first origin after it, in
rotation, that has one, with its weight as credit; a direct origin's eligible ticket is its head or none, P's the first
that is not deferred. While a lease on an address exists, no other origin's ticket to it is chosen, but a poll ticket
where the lease admits polls. -/
def Obligations.SchedulerChoosesByRotation : Prop :=
  (∀ (s : State) (k : Ticket), s.eligible s.queue.current = some k → 0 < s.queue.credit →
    s.choose = some ⟨s.queue.current, s.queue.credit - 1, k⟩) ∧
    (∀ (s : State), s.eligible s.queue.current = none ∨ s.queue.credit = 0 →
      ∀ (pre post : List Origin) (q : Origin) (k : Ticket),
        (match s.queue.current with
          | .a => [Origin.b, .c, .p, .a] | .b => [Origin.c, .p, .a, .b] | .c => [Origin.p, .a, .b, .c]
          | .p => [Origin.a, .b, .c, .p]) = pre ++ q :: post →
        (∀ q' ∈ pre, s.eligible q' = none) → s.eligible q = some k →
        s.choose = some ⟨q, s.settings.weight q - 1, k⟩) ∧
    (∀ (s : State) (o : Direct), s.eligible (directOrigin o) =
      match s.queuedOf (directOrigin o) with
      | [] => none
      | k :: _ => if s.deferred k then none else some k) ∧
    (∀ (s : State) (pre post : List Ticket) (k : Ticket), s.queuedOf .p = pre ++ k :: post →
      (∀ j ∈ pre, s.deferred j = true) → s.deferred k = false → s.eligible .p = some k) ∧
    ∀ (s : State) (c : Choice) (l : Lease), s.choose = some c → l ∈ s.leases → l.addr = c.ticket.addr →
      (c.ticket.origin = .p ∧ l.polls = true) ∨ c.ticket.origin = directOrigin l.holder

/-- With the engine IDLE and the monitor FREE the ticket chosen starts: it is ACTIVE with its progress clear, the rate
and the limits are those of the settings, both limits begin, and the monitor is BUSY_OWN. -/
def Obligations.TicketStartMakesStart : Prop :=
  ∀ (s : State) (c : Choice), s.resetting = none → s.engine.state = .idle → s.monitor.state = .free →
    s.choose = some c →
    ∃ t, exec .ticketStart s = .next t ∧ t.queue.active = some { c.ticket with acked := 0, rdata := [] } ∧
      t.queue.queued = s.queue.queued.set c.origin (without c.ticket.number (s.queuedOf c.origin)) ∧
      t.queue.current = c.origin ∧ t.queue.credit = c.credit ∧ t.queue.waiting = s.queue.waiting ∧
      t.queue.counter = s.queue.counter ∧ t.engine.state = .address ∧ t.engine.sclDrive = .low ∧
      t.engine.rate = (if s.settings.rate = 400#32 then .khz400 else .khz100) ∧
      t.engine.stretch = some ⟨s.settings.stretch.toNat, 0⟩ ∧
      t.engine.trans = some ⟨s.settings.transaction.toNat, 0⟩ ∧ t.monitor.state = .busyOwn

/-- The address acknowledge bit decides NO_DEVICE, DONE for a PROBE, WRITE or READ; nothing is counted. -/
def Obligations.AddressAcknowledgeDecides : Prop :=
  ∀ (s : State) (k : Ticket) (ack : Bool), s.resetting = none → s.engine.state = .address →
    s.queue.active = some k → k.abort = false →
    ∃ t, exec (.addressByteEnd ack) s = .next t ∧ t.queue = s.queue ∧ t.engine.trans = s.engine.trans ∧
      t.engine.stretch = some ⟨s.engine.stretchLimit, 0⟩ ∧
      (ack = false → t.engine.state = .stopping ∧ t.engine.fixed = some .noDevice) ∧
      (ack = true → k.kind = .probe → t.engine.state = .stopping ∧ t.engine.fixed = some .done) ∧
      (ack = true → k.kind = .write ∨ k.kind = .writeRead → t.engine.state = .write) ∧
      (ack = true → k.kind = .read → t.engine.state = .read)

/-- A write byte's acknowledge bit raises the counts, and leads to the next byte, RESTART or DONE; a NACK on any byte is
DATA_NACK with the count as it was. -/
def Obligations.WriteAcknowledgeCounts : Prop :=
  ∀ (s : State) (k : Ticket) (ack : Bool), s.resetting = none → s.engine.state = .write → s.queue.active = some k →
    k.abort = false →
    ∃ t, exec (.writeByteEnd ack) s = .next t ∧ t.engine.trans = s.engine.trans ∧
      t.engine.stretch = some ⟨s.engine.stretchLimit, 0⟩ ∧
      (ack = false → t.queue = s.queue ∧ t.engine.state = .stopping ∧ t.engine.fixed = some .dataNack) ∧
      (ack = true →
        t.queue = { s.queue with
          active := some { k with acked := k.acked + 1, greatest := max k.greatest (k.acked + 1) } } ∧
        (k.acked + 1 < k.wdata.length → t.engine.state = .write) ∧
        (k.wdata.length ≤ k.acked + 1 → k.kind = .writeRead → t.engine.state = .restart) ∧
        (k.wdata.length ≤ k.acked + 1 → k.kind ≠ .writeRead → t.engine.state = .stopping ∧
          t.engine.fixed = some .done))

/-- The read address of a repeated START leads to READ or ends NO_DEVICE, the write count as it was; a read byte is kept,
and before the read length is reached the next one follows, at it the ticket is DONE. -/
def Obligations.ReadPhaseKeepsBytes : Prop :=
  (∀ (s : State) (k : Ticket) (ack : Bool), s.resetting = none → s.engine.state = .restart →
    s.queue.active = some k → k.abort = false →
    k.sentByte .restart = k.addr <<< 1 ||| 1#8 ∧
    ∃ t, exec (.restartEnd ack) s = .next t ∧ t.queue = s.queue ∧
      (ack = false → t.engine.state = .stopping ∧ t.engine.fixed = some .noDevice) ∧
      (ack = true → t.engine.state = .read)) ∧
    ∀ (s : State) (k : Ticket) (b : Byte), s.resetting = none → s.engine.state = .read → s.queue.active = some k →
      k.abort = false →
      ∃ t, exec (.readByteEnd b) s = .next t ∧
        t.queue = { s.queue with active := some { k with rdata := k.rdata ++ [b] } } ∧
        (k.rdata.length + 1 < k.rlen → t.engine.state = .read ∧ t.engine.fixed = none) ∧
        (k.rlen ≤ k.rdata.length + 1 → t.engine.state = .stopping ∧ t.engine.fixed = some .done)

/-- With the abort-requested mark set, every byte boundary leads to STOPPING with CANCELLED, but an acknowledged read
address, after which one byte is read; the byte just ended is counted or kept. -/
def Obligations.AbortEndsAtByteBoundary : Prop :=
  ∀ (s : State) (k : Ticket) (ack : Bool), s.resetting = none → s.queue.active = some k → k.abort = true →
    (s.engine.state = .address → ∃ t, exec (.addressByteEnd ack) s = .next t ∧ t.queue = s.queue ∧
      (k.kind = .read ∧ ack = true → t.engine.state = .read) ∧
      (k.kind ≠ .read ∨ ack = false → t.engine.state = .stopping ∧ t.engine.fixed = some .cancelled)) ∧
    (s.engine.state = .write → ∃ t, exec (.writeByteEnd ack) s = .next t ∧
      t.engine.state = .stopping ∧ t.engine.fixed = some .cancelled ∧
      t.queue.active = some (if ack then
        { k with acked := k.acked + 1, greatest := max k.greatest (k.acked + 1) } else k)) ∧
    (s.engine.state = .restart → ∃ t, exec (.restartEnd ack) s = .next t ∧ t.queue = s.queue ∧
      (ack = true → t.engine.state = .read) ∧
      (ack = false → t.engine.state = .stopping ∧ t.engine.fixed = some .cancelled)) ∧
    (s.engine.state = .read → ∀ b, ∃ t, exec (.readByteEnd b) s = .next t ∧ t.engine.state = .stopping ∧
      t.engine.fixed = some .cancelled ∧ t.queue.active = some { k with rdata := k.rdata ++ [b] })

/-- The STOP complete, the ticket ends with the result fixed before it: a direct ticket's outcome in its records, and at
a port that waits on it; a poll ticket's at its entry; an orphan's nowhere; the bus free time of its rate begins. A
record holds the fields of Table 4.1 as the ticket stood when its result was fixed, for ARB_LOST with the greatest
acknowledged count; that of a DONE_WAITING ticket likewise. -/
def Obligations.StopCompleteEndsTicket : Prop :=
  (∀ (k : Ticket) (r : Result) (now : Time), k.record r now =
      ⟨k.number, k.kind, k.addr, r, if r = .arbLost then k.greatest else k.acked, k.retries, k.leaseEnded, k.submit, now,
        k.rdata⟩ ∧
    ({ k with result := some r, finish := some now, waited := false } : Ticket).waitingRecord = k.record r now) ∧
  ∀ (s : State) (k : Ticket) (r : Result), s.resetting = none → s.engine.state = .stopping →
    s.queue.active = some k → s.engine.fixed = some r →
    ∃ t, exec .stopComplete s = .next t ∧ t.engine.state = .idle ∧ t.engine.trans = none ∧ t.engine.stretch = none ∧
      t.engine.sclDrive = .released ∧ t.engine.sdaDrive = .released ∧ t.queue.active = none ∧
      t.monitor.state = s.monitor.state ∧
      t.monitor.free = some ⟨(match s.engine.rate with | .khz100 => 50 | .khz400 => 15), false⟩ ∧
      ticketEnded s t k r ∧
      ∀ o limit, k.orphaned = false → k.origin = directOrigin o → k.waited = true →
        s.slotOf o = .onTicket k.number limit → t.answered o .ok (k.record r s.time).layout

/-- Arbitration lost at a check point, at the place shown or later in the byte (log 24): both lines released, the limits stopped, the monitor BUSY_FOREIGN, the engine in
BACKOFF, the credit given back, and the ticket dealt with by the first case of R13 that applies, or by R15 where its
deadline has been reached (the mark of that: the model's choice, log 3). A byte with no bit sent as 1 left, a device's
acknowledge bit included, has no check. A rise of D-SCL at a check point with D-SDA low is not taken as a plain change of
the line, since it is the loss (log 41). (A mark set after the ACK of a read byte is driven: the model's choice, log 32.) -/
def Obligations.ArbitrationLossGivesTicketBack : Prop :=
  (∀ (s : State) (k : Ticket) (cut : Sampled), s.queue.active = some k →
    s.engine.state ∈ [EngineState.address, .write, .restart] → (s.engine.state = .restart → s.engine.bit ≠ none) →
    (∀ j < 8, s.engine.bit.getD 0 ≤ j → (k.sentByte s.engine.state).getLsbD (7 - j) = false) →
    exec (.arbitrationLost cut) s = .next s) ∧
  (∀ (s : State) (k : Ticket), s.queue.active = some k → s.engine.atCheckPoint k → s.monitor.sda = false →
    exec (.dBusLineChange .scl true) s = .next s) ∧
  ∀ (s : State) (k k' : Ticket) (cut : Sampled), s.resetting = none → s.queue.active = some k →
    cutLeaves s.engine.state k cut k' →
    (s.engine.state ∈ [EngineState.address, .write, .restart] ∧ cut = .nothing ∧
        ∃ j < 8, s.engine.bit.getD 0 ≤ j ∧ (k.sentByte s.engine.state).getLsbD (7 - j) = true) ∨
      (s.engine.state = .restart ∧ cut = .nothing ∧ s.engine.bit = none) ∨
      (s.engine.state = .stopping ∧ cut = .nothing) ∨
      (s.engine.state = .read ∧ cut ≠ .nothing ∧ s.engine.bit ≠ some 8 ∧
        (k.rlen ≤ k.rdata.length + 1 ∨ k.abort = true)) ∨
      (s.engine.state = .read ∧ cut ≠ .nothing ∧ s.engine.bit = some 8 ∧ s.engine.sdaDrive = .released) →
    ∃ t, exec (.arbitrationLost cut) s = .next t ∧ t.engine.state = .backoff ∧ t.engine.sclDrive = .released ∧
      t.engine.sdaDrive = .released ∧ t.engine.trans = none ∧ t.engine.stretch = none ∧
      t.monitor.state = .busyForeign ∧ t.queue.current = s.queue.current ∧ t.queue.credit = s.queue.credit + 1 ∧
      t.queue.active = none ∧
      (k.orphaned = true → ticketEnded s t k' .arbLost) ∧
      (k.orphaned = false → k.abort = true → ticketEnded s t k' .cancelled) ∧
      (k.orphaned = false → k.abort = false → k.noRetry = true ∨ s.settings.retryLimit.toNat ≤ k.retries →
        ticketEnded s t k' .arbLost) ∧
      (k.orphaned = false → k.abort = false → k.noRetry = false → k.retries < s.settings.retryLimit.toNat →
        (k.deadlineReached = false → t.records = s.records ∧ t.mirror = s.mirror ∧ t.queue.waiting = s.queue.waiting ∧
          t.queuedOf k.origin =
            { k' with acked := 0, rdata := [], retries := k.retries + 1 } :: s.queuedOf k.origin) ∧
        (k.deadlineReached = true →
          ticketEnded s t { k' with acked := 0, rdata := [], retries := k.retries + 1 } .expired))

/-- A condition the engine did not make ends its ticket MISPLACED_CONDITION, or CANCELLED under an abort, with the
engine IDLE and the monitor BUSY_FOREIGN; after a STOP the free time of the rate setting begins. -/
def Obligations.MisplacedConditionEndsTicket : Prop :=
  ∀ (s : State) (k k' : Ticket) (c : Cond) (cut : Sampled), s.resetting = none → s.queue.active = some k →
    s.engine.state ∈ [EngineState.address, .write, .restart, .read, .stopping] → s.monitor.state = .busyOwn →
    cutLeaves s.engine.state k cut k' →
    ∃ t, exec (.misplacedCondition c cut) s = .next t ∧ t.engine.state = .idle ∧ t.engine.sclDrive = .released ∧
      t.engine.sdaDrive = .released ∧ t.engine.trans = none ∧ t.engine.stretch = none ∧ t.queue.active = none ∧
      t.monitor.state = .busyForeign ∧
      t.monitor.free = (match c with
        | .start => none
        | .stop => some ⟨if s.settings.rate = 400#32 then 15 else 50, false⟩) ∧
      ticketEnded s t k' (if k.abort then .cancelled else .misplacedCondition)

/-- A limit that expires ends the ticket with its timeout, whatever its retries, its flag and its abort mark, and the
engine is in RECOVERY with the stuck limit read; what had been sampled of the byte in progress counts. (The
levels seen after the release are operands: the model's choice, log 20. That a byte sampled before its boundary counts is
the model's choice too, log 33: R60 is followed where R61 says that the byte is not counted.) -/
def Obligations.TimeoutEndsTicketInRecovery : Prop :=
  ∀ (s : State) (k k' : Ticket) (cut : Sampled) (scl sda : Bool) (i : Instr) (r : Result) (c : Count),
    s.resetting = none → s.queue.active = some k →
    s.engine.state ∈ [EngineState.address, .write, .restart, .read, .stopping] →
    cutLeaves s.engine.state k cut k' →
    (i = .stretchTimeout cut scl sda ∧ r = .stretchTimeout ∧ s.engine.stretch = some c) ∨
      (i = .transactionTimeout cut scl sda ∧ r = .transactionTimeout ∧ s.engine.trans = some c) →
    c.limit + 1 ≤ c.changes →
    ∃ t, exec i s = .next t ∧ t.engine.state = .recovery ∧ t.engine.stretch = none ∧ t.engine.trans = none ∧
      t.engine.pulses = 0 ∧ t.engine.stuckLimit = s.settings.stuckLimit.toNat ∧ t.queue.active = none ∧
      ticketEnded s t k' r ∧
      t.engine.phase = some (if scl then (if sda then .stop else .pulse) else .waitClock)

/-! ### Recovery and the monitor -/

/-- The course of a recovery attempt: D-SCL high, the engine looks at D-SDA; a pulse that samples it high leads to the
recovery STOP, one that samples it low to the next pulse, the ninth to STUCK; the STOP complete, the engine is IDLE with
the 5 µs free time running and BUS_RECOVERED sent if the bus had been reported lost. -/
def Obligations.RecoverySequence : Prop :=
  (∀ (sda : Bool) (s : State), s.resetting = none → s.engine.state = .recovery → s.engine.phase = some .waitClock →
    ∃ t, exec (.recoveryClockRise sda) s = .next t ∧ t.engine.state = .recovery ∧ t.records = s.records ∧
      t.engine.phase = some (if sda then .stop else .pulse) ∧ t.engine.wait = some ⟨s.engine.stuckLimit, 0⟩) ∧
    (∀ (sda : Bool) (s : State), s.resetting = none → s.engine.state = .recovery → s.engine.phase = some .pulse →
      ∃ t, exec (.recoveryPulse sda) s = .next t ∧ t.engine.pulses = s.engine.pulses + 1 ∧
        (sda = true → t.engine.state = .recovery ∧ t.engine.phase = some .stop ∧ t.engine.sdaDrive = .low) ∧
        (sda = false → s.engine.pulses < 8 → t.engine.state = .recovery ∧ t.engine.phase = some .pulse ∧
          t.engine.wait = some ⟨s.engine.stuckLimit, 0⟩) ∧
        (sda = false → 8 ≤ s.engine.pulses → t.engine.state = .stuck ∧ t.engine.busLost = true)) ∧
    ∀ (s : State), s.resetting = none → s.engine.state = .recovery → s.engine.phase = some .stop →
      ∃ t, exec .recoveryStopComplete s = .next t ∧ t.engine.state = .idle ∧ t.engine.sdaDrive = .released ∧
        t.engine.sclDrive = .released ∧ t.engine.busLost = false ∧ t.monitor.free = some ⟨50, true⟩ ∧
        ∀ q, t.recOf q = if s.engine.busLost then (s.recOf q).arrive .busRecovered .none [] s.time else s.recOf q

/-- An attempt that fails, by the stuck limit, by a ninth pulse that samples D-SDA low or by the recovery STOP, leaves the engine STUCK with both lines released,
a retry count of the interval as it stands, and BUS_STUCK sent once; the retry count's end begins a new attempt with the
stuck limit read anew. -/
def Obligations.FailedRecoveryIsStuck : Prop :=
  (∀ (s : State) (i : Instr), s.resetting = none → s.engine.state = .recovery →
    (i = .stuckLimitExpiry ∧ ∃ c, s.engine.wait = some c ∧ c.limit + 1 ≤ c.changes) ∨
      (i = .recoveryPulse false ∧ s.engine.phase = some .pulse ∧ 8 ≤ s.engine.pulses) ∨
      (i = .recoveryStopFail ∧ s.engine.phase = some .stop) →
    ∃ t, exec i s = .next t ∧ t.engine.state = .stuck ∧ t.engine.sclDrive = .released ∧
      t.engine.sdaDrive = .released ∧ t.engine.retry = some ⟨s.settings.retryInterval.toNat, 0⟩ ∧
      t.engine.busLost = true ∧
      ∀ q, t.recOf q = if s.engine.busLost then s.recOf q else (s.recOf q).arrive .busStuck .none [] s.time) ∧
    ∀ (s : State) (c : Count), s.resetting = none → s.engine.state = .stuck → s.engine.retry = some c →
      c.limit + 1 ≤ c.changes →
      ∃ t, exec .retryCountExpiry s = .next t ∧ t.engine.state = .recovery ∧ t.engine.retry = none ∧
        t.engine.pulses = 0 ∧ t.engine.stuckLimit = s.settings.stuckLimit.toNat ∧
        t.engine.busLost = s.engine.busLost ∧ t.records = s.records

/-- Outside its own transfer a START the engine did not make takes the monitor to BUSY_FOREIGN, and a STOP starts the
free time of the rate setting. The free time passed, or the idle count at the idle-detect time, makes the monitor FREE; a
change to FREE takes the engine from BACKOFF, or from STUCK with BUS_RECOVERED, to IDLE, and no other engine state
changes. (A STOP in BUSY_OWN outside a transfer leads to BUSY_FOREIGN: the model's choice, log 14.) -/
def Obligations.ConditionsMoveMonitor : Prop :=
  (∀ (s : State), s.resetting = none → s.engine.state ∈ [EngineState.idle, .backoff, .recovery, .stuck] →
    (∃ t, exec .foreignStart s = .next t ∧ t.monitor.state = .busyForeign ∧ t.monitor.free = none ∧
      t.engine = s.engine ∧ t.queue = s.queue) ∧
    ∃ t, exec .stopSeen s = .next t ∧
      t.monitor.state = (if s.monitor.state = .busyOwn then .busyForeign else s.monitor.state) ∧
      t.monitor.free = some ⟨if s.settings.rate = 400#32 then 15 else 50, false⟩ ∧ t.engine = s.engine ∧
      t.queue = s.queue) ∧
    ∀ (s : State) (i : Instr), s.resetting = none → s.monitor.state ≠ .free →
      (i = .busFreeTimePassed ∧ s.monitor.free ≠ none) ∨
        (i = .idleDetect ∧ s.engine.state ∈ [EngineState.idle, .backoff, .recovery, .stuck] ∧
          ∃ n, s.monitor.idle = some n ∧ s.settings.idleDetect.toNat + 1 ≤ n) →
      ∃ t, exec i s = .next t ∧ t.monitor.state = .free ∧ t.monitor.free = none ∧ t.monitor.held = none ∧
        t.queue = s.queue ∧
        (s.engine.state = .backoff → t.engine.state = .idle ∧ t.records = s.records) ∧
        (s.engine.state = .stuck → s.engine.busLost = true → t.engine.state = .idle ∧ t.engine.retry = none ∧
          t.engine.busLost = false ∧ ∀ q, t.recOf q = (s.recOf q).arrive .busRecovered .none [] s.time) ∧
        (s.engine.state ≠ .backoff → s.engine.state ≠ .stuck → t.engine = s.engine ∧ t.records = s.records)

/-- What the monitor makes of the levels of the lines: a fall in FREE leads to UNKNOWN; the idle count begins when both
lines are high and is cleared by a fall; in UNKNOWN the held-data count begins with D-SDA low and D-SCL high, and its end
hands the bus to an IDLE engine, which gives clock pulses, but to no other. In a byte of the transfer the next bit
follows: a 0 the engine sends and an ACK it gives pull D-SDA low, every other bit leaves it released; a repeated START
leads to the first bit of the read address; in the STOP D-SDA stays low. A rise of D-SCL goes on but at a check point with
D-SDA low, where it is the loss of arbitration (log 41). (A fall ends a free time, and levels after the
engine's own drives: the model's choice, log 12; a fall in RESTART ends the repeated START whoever made it: log 31.) -/
def Obligations.MonitorFollowsLines : Prop :=
  (∀ (s : State) (line : BusLine), s.resetting = none → s.monitor.state = .free →
    ∃ t, exec (.lineFallInFree line) s = .next t ∧ t.monitor.state = .unknown ∧ t.monitor.idle = none ∧
      t.monitor.free = none ∧ t.engine = s.engine) ∧
    (∀ (s : State), s.resetting = none → s.monitor.scl = false →
      ¬(s.engine.state = .recovery ∧ (s.engine.phase = some .waitClock ∨ s.engine.phase = some .pulse)) →
      (s.monitor.sda = false → ∀ k, s.queue.active = some k → ¬s.engine.atCheckPoint k) →
      ∃ t, exec (.dBusLineChange .scl true) s = .next t ∧ t.monitor.scl = true ∧ t.monitor.sda = s.monitor.sda ∧
        t.engine.sclDrive = .released ∧
        t.monitor.state = s.monitor.state ∧ (s.monitor.sda = true → s.monitor.idle = none → t.monitor.idle = some 0) ∧
        (s.monitor.sda = false → t.monitor.idle = none) ∧
        (s.monitor.sda = false → s.monitor.state = .unknown → s.monitor.held = none →
          t.monitor.held = some ⟨s.settings.stuckLimit.toNat, 0⟩)) ∧
    (∀ (s : State), s.resetting = none → s.monitor.scl = true → s.monitor.state ≠ .free →
      s.engine.state ∈ [EngineState.idle, .backoff, .recovery, .stuck] →
      ∃ t, exec (.dBusLineChange .scl false) s = .next t ∧ t.monitor.scl = false ∧ t.monitor.idle = none ∧
        t.monitor.held = none ∧ t.monitor.free = none) ∧
    (∀ (s : State) (level : Bool), s.resetting = none → s.monitor.scl = false → s.monitor.sda ≠ level →
      s.monitor.state ≠ .free → s.engine.sdaDrive = .released →
      ∃ t, exec (.dBusLineChange .sda level) s = .next t ∧ t.monitor.sda = level ∧ t.monitor.scl = false ∧
        t.monitor.idle = none ∧ t.engine = s.engine) ∧
    (∀ (s : State) (k : Ticket) (b : Nat), s.resetting = none → s.monitor.scl = true → s.monitor.state = .busyOwn →
      s.engine.state ∈ [EngineState.address, .write, .restart] → s.queue.active = some k → s.engine.bit = some b →
      b < 8 →
      ∃ t, exec (.dBusLineChange .scl false) s = .next t ∧ t.engine.bit = some (b + 1) ∧ t.engine.sclDrive = .low ∧
        t.monitor.scl = false ∧ t.queue = s.queue ∧ t.engine.state = s.engine.state ∧
        t.engine.sdaDrive =
          if b < 7 ∧ (k.sentByte s.engine.state).getLsbD (6 - b) = false then .low else .released) ∧
    (∀ (s : State) (k : Ticket), s.resetting = none → s.monitor.scl = true → s.monitor.state = .busyOwn →
      s.queue.active = some k →
      (∀ b, s.engine.state = .read → s.engine.bit = some b → b < 8 →
        ∃ t, exec (.dBusLineChange .scl false) s = .next t ∧ t.engine.bit = some (b + 1) ∧ t.queue = s.queue ∧
          t.engine.state = .read ∧ t.engine.sclDrive = .low ∧
          t.engine.sdaDrive = if b = 7 ∧ k.rdata.length + 1 < k.rlen ∧ k.abort = false then .low else .released) ∧
      (s.engine.state = .restart → s.engine.bit = none →
        ∃ t, exec (.dBusLineChange .scl false) s = .next t ∧ t.engine.bit = some 0 ∧ t.queue = s.queue ∧
          t.engine.state = .restart ∧ t.engine.sclDrive = .low ∧
          t.engine.sdaDrive = if (k.sentByte .restart).getLsbD 7 then .released else .low) ∧
      (s.engine.state = .stopping → s.engine.bit = none →
        ∃ t, exec (.dBusLineChange .scl false) s = .next t ∧ t.engine.bit = none ∧ t.queue = s.queue ∧
          t.engine.state = .stopping ∧ t.engine.sclDrive = .low ∧ t.engine.sdaDrive = .low)) ∧
    ∀ (s : State) (c : Count), s.resetting = none → s.monitor.held = some c → c.limit + 1 ≤ c.changes →
      ∃ t, exec .heldDataExpiry s = .next t ∧ t.monitor.held = none ∧
        (s.engine.state = .idle → t.engine.state = .recovery ∧ t.engine.phase = some .pulse ∧ t.engine.pulses = 0 ∧
          t.engine.stuckLimit = s.settings.stuckLimit.toNat) ∧
        (s.engine.state ≠ .idle → t.engine = s.engine)

/-! ### Time and broker reset -/

/-- A queue deadline that has been reached ends its QUEUED ticket EXPIRED with its progress empty; a lease's expiry
removes it, marks its holder's ACTIVE ticket to the address, and sends LEASE_ENDED. (Marks of times reached: the model's
choice, log 3.) -/
def Obligations.ExpiriesAreTaken : Prop :=
  (∀ (s : State) (o : Direct) (n : Nat) (k : Ticket) (pre post : List Ticket), s.resetting = none →
    s.queuedOf (directOrigin o) = pre ++ k :: post → k.number = n → (∀ j ∈ pre, j.number ≠ n) →
    k.deadlineReached = true → k.orphaned = false →
    ∃ t, exec (.deadlineExpiry (directOrigin o) n) s = .next t ∧ t.queuedOf (directOrigin o) = pre ++ post ∧
      outcomeTaken s t o { k with acked := 0, rdata := [] } .expired ∧
      ∀ limit, k.waited = true → s.slotOf o = .onTicket n limit →
        t.answered o .ok (({ k with acked := 0, rdata := [] } : Ticket).record .expired s.time).layout) ∧
    (∀ (s : State) (n : Nat) (k : Ticket) (pre post : List Ticket), s.resetting = none →
      s.queuedOf .p = pre ++ k :: post → k.number = n → (∀ j ∈ pre, j.number ≠ n) → k.deadlineReached = true →
      k.orphaned = false →
      ∃ t, exec (.deadlineExpiry .p n) s = .next t ∧ t.records = (s.pollResult n .expired []).records ∧
        t.sameEntries (s.pollResult n .expired []) ∧
        ((s.pollResult n .expired []).setQueued .p (pre ++ post)).retriedTo t) ∧
    ∀ (s : State) (l : Lease) (pre post : List Lease), s.resetting = none → s.leases = pre ++ l :: post →
      (∀ m ∈ pre ++ post, m.addr ≠ l.addr) → l.reached = true →
      ∃ t, exec (.leaseExpiry l.addr) s = .next t ∧ t.leases = pre ++ post ∧
        (∀ q, t.recOf q = if q = l.holder then (s.recOf q).arrive .leaseEnded (.device l.addr) [] s.time
          else s.recOf q) ∧
        t.queue = { s.queue with active := s.queue.active.map fun k =>
          if k.origin = directOrigin l.holder ∧ k.addr = l.addr ∧ k.orphaned = false then { k with leaseEnded := true }
          else k }

/-- An entry that falls due posts at once where nothing else waits and origin P has a place; a posted one lets the due
time pass. Entries that fall due on one change of the broker time wait behind those that waited before, in index order,
and all try their posts in that order up to the first refusal (also where a due time passed without effect: the model's
choice, log 38). A FRESH entry whose age is above its stale limit becomes STALE, and nothing else of it changes. (Marks of
due times reached: the model's choice, log 3.) -/
def Obligations.DueAndStaleEntries : Prop :=
  (∀ (s : State) (i : Nat) (e : Entry), s.resetting = none → i < 32 → s.entry i = some e → e.dueReached = true →
    (∀ j, j ≠ i → ∀ e', s.entry j = some e' → e'.dueReached = false) → s.dueMarks = [] →
    ∃ t, exec (.pollDue i) s = .next t ∧ t.sameEntriesBut s i ∧
      (e.posted = true → t.entry i = some { e with dueReached := false } ∧ t.queue = s.queue ∧ t.dueMarks = []) ∧
      (e.posted = false → s.queue.total < 24 → s.queue.counted .p < s.settings.quota .p →
        t.entry i = some { e with dueReached := false, posted := true } ∧ t.dueMarks = [] ∧
          ∃ k, t.queuedOf .p = s.queuedOf .p ++ [k] ∧ k.number = i ∧ k.addr = e.addr ∧ k.rlen = e.width) ∧
      (e.posted = false → 24 ≤ s.queue.total ∨ s.settings.quota .p ≤ s.queue.counted .p →
        t.entry i = some { e with dueReached := false } ∧ t.isDue i = true ∧ t.queue = s.queue)) ∧
    (∀ (s : State) (i : Nat) (e : Entry), s.resetting = none → s.mirror.length = 32 → s.entry i = some e →
      e.dueReached = true → (∀ m ∈ s.dueMarks, m.fresh = false) ∨ e.due ≠ s.time →
      ∃ t, exec (.pollDue i) s = .next t ∧
        ((s.setMirror (s.mirror.map (Option.map fun x =>
            if x.dueReached = true ∧ x.due = e.due then { x with dueReached := false } else x))).setDueMarks
          (s.dueMarks ++ ((List.range 32).filter fun j =>
            (s.entry j).any (fun x => x.dueReached && decide (x.due = e.due) && !x.posted) && !s.isDue j).map fun j =>
              ⟨j, decide (e.due = s.time)⟩)).retriedTo t) ∧
    ∀ (s : State) (i : Nat) (e : Entry), s.resetting = none → s.entry i = some e → e.status = .fresh →
      min (2 * (e.interval * 10)) 65534 < e.age →
      ∃ t, exec (.staleness i) s = .next t ∧ t.entry i = some { e with status := .stale } ∧
        (∀ j, j ≠ i → t.entry j = s.entry j) ∧ t.records = s.records

/-- One change of the broker time reaches every timer: targets equal to the new time are reached, ages and counts go up
by one, and nothing expires by itself (the model's choice, log 3). An own low time is over, and D-SCL is released (the
model's choice, log 30). The time before an admission is counted in `since` (log 15). -/
def Obligations.TickReachesEveryTimer : Prop :=
  ∀ (s : State), s.resetting = none →
    ∃ t, exec .brokerTimeTick s = .next t ∧ t.time = s.time + 1#16 ∧
      (∀ q, t.queuedOf q = (s.queuedOf q).map fun k =>
        { k with deadlineReached := k.deadlineReached || decide (k.deadline = s.time + 1#16) }) ∧
      t.queue.active = s.queue.active.map (fun k =>
        { k with deadlineReached := k.deadlineReached || decide (k.deadline = s.time + 1#16) }) ∧
      t.queue.waiting = s.queue.waiting ∧ t.dueMarks = s.dueMarks.map (fun m => ⟨m.index, false⟩) ∧
      t.engine.sclDrive = .released ∧ t.engine.sdaDrive = s.engine.sdaDrive ∧ t.engine.bit = s.engine.bit ∧
      t.leases = s.leases.map (fun l => { l with reached := l.reached || decide (l.expiry = s.time + 1#16) }) ∧
      (∀ i e, s.entry i = some e → ∃ e', t.entry i = some e' ∧ e'.age = min (e.age + 1) 65535 ∧
        e'.status = e.status ∧ (s.isDue i = false → e.due = s.time + 1#16 → e'.dueReached = true)) ∧
      (∀ c, s.engine.stretch = some c → t.engine.stretch = some ⟨c.limit, c.changes + 1⟩) ∧
      (∀ c, s.engine.trans = some c → t.engine.trans = some ⟨c.limit, c.changes + 1⟩) ∧
      (∀ c, s.engine.wait = some c → t.engine.wait = some ⟨c.limit, c.changes + 1⟩) ∧
      (∀ c, s.engine.retry = some c → t.engine.retry = some ⟨c.limit, c.changes + 1⟩) ∧
      (∀ n, s.monitor.idle = some n → t.monitor.idle = some (n + 1)) ∧
      (∀ c, s.monitor.held = some c → t.monitor.held = some ⟨c.limit, c.changes + 1⟩) ∧
      (∀ c, s.portA.hold = some c → t.portA.hold = some ⟨c.limit, c.changes + 1⟩) ∧
      (∀ c, s.portB.hold = some c → t.portB.hold = some ⟨c.limit, c.changes + 1⟩) ∧
      (∀ c, s.portC.hold = some c → t.portC.hold = some ⟨c.limit, c.changes + 1⟩) ∧
      (∀ port n, (s.tw port).since = some n → (t.tw port).since = some (n + 1)) ∧
      (∀ n, s.portC.since = some n → t.portC.since = some (n + 1)) ∧
      t.engine.state = s.engine.state ∧ t.monitor.state = s.monitor.state ∧ t.records = s.records ∧
      t.settings = s.settings

/-- A broker reset: from its entry every output is released and the time held at 0 (the rest of the state in it: the
model's choice, log 19); at its release every setting is at its default, every owner at its reset state, and each origin
holds one BROKER_RESTARTED with the cause. -/
def Obligations.BrokerResetEntryAndRelease : Prop :=
  (∀ (c : ResetCause) (s : State), ∃ t, exec (.brokerResetEntry c) s = .next t ∧
    t.resetting = some (if s.resetting = some .powerOn then .powerOn else c) ∧ t.time = 0#16 ∧
    t.pins = ⟨⟨.released, .released, .released⟩, .released, .released, .released, .released, .released, .released,
      .released, .released⟩) ∧
    ∀ (c : ResetCause) (a1 a0 scl sda : Bool) (s : State), s.resetting = some c →
      ∃ t, exec (.brokerResetRelease a1 a0 scl sda) s = .next t ∧ t.resetting = none ∧ t.cause = c ∧
        t.adsel = (if a1 then 2 else 0) + (if a0 then 1 else 0) ∧ t.time = 0#16 ∧
        t.settings = ⟨100#32, 8#32, 35#32, 3#32, 2#32, 50#32, 250#32, 10#32, 0x03070707#32, 0x01010101#32,
          0x00050505#32, 0x00010101#32, 20#32⟩ ∧
        t.queue = ⟨⟨[], [], [], []⟩, none, ⟨[], [], []⟩, ⟨1, 1, 1⟩, .p, 0⟩ ∧ t.engine.state = .idle ∧
        t.engine.busLost = false ∧ t.engine.sclDrive = .released ∧ t.engine.sdaDrive = .released ∧
        t.engine.stretch = none ∧ t.engine.trans = none ∧ t.engine.wait = none ∧ t.engine.retry = none ∧
        t.monitor.state = .unknown ∧ t.monitor.free = none ∧ t.leases = [] ∧ t.mirror = List.replicate 32 none ∧
        t.dueMarks = [] ∧ t.portA.slot = .empty ∧ t.portB.slot = .empty ∧ t.portC.slot = .empty ∧
        (∀ q, t.recOf q =
          ⟨[], 0, [⟨.brokerRestarted, .none, 1, [if c = .powerOn then 1#8 else 2#8], 0#16⟩], 0, 0, 0⟩) ∧
        t.pins = ⟨⟨.low, .low, .low⟩, .low, .high, .released, .released, .released, .released, .released, .released⟩

/-! ### Invariants -/

/-- The outputs follow the state at every step: the attention lines R91, C-READY R172, held clocks R157, and every
output released in a broker reset. (The outputs set anew once for each command: the model's choice, log 21. C-DO,
A-SDA and B-SDA at the first bit of a byte: the model's choice, log 22.) -/
def Obligations.OutputsFollowState : Prop :=
  ∀ s t : State, s.outputsRight = true → step s = .next t → t.outputsRight = true

/-- Every step keeps the records of each origin within their capacities and counts, the settings in range, the leases
apart and at most 8, and the mirror at 32 entries; and due marks on defined entries with no poll posted, one on each. -/
def Obligations.TablesStayWellFormed : Prop :=
  (∀ s t : State, s.recordsWf = true ∧ s.settings.wf = true ∧ s.leasesWf = true ∧ s.mirrorWf = true →
    step s = .next t → t.recordsWf = true ∧ t.settings.wf = true ∧ t.leasesWf = true ∧ t.mirrorWf = true) ∧
    ∀ s t : State, s.mirrorWf = true → s.dueMarksWf = true → step s = .next t → t.dueMarksWf = true

/-- Every step keeps the ports well formed: a hold only while the slot waits, Port C's slot as its block and its discarded
mark require, the discarded mark clear while a command, such as an ORIGIN RESET, is handed over, and the time before an
admission (log 15) kept only while the command has not been taken. -/
def Obligations.PortsStayWellFormed : Prop :=
  ∀ s t : State, s.portsWf = true → step s = .next t → t.portsWf = true

/-- Every step keeps at most 24 tickets, the engine holding the ACTIVE ticket in its transfer states alone, its lines
released in IDLE, BACKOFF and STUCK, and the bus-lost mark with STUCK; and no two tickets or ring records of a direct
origin with one number, and no two poll tickets that are not orphaned of one entry. -/
def Obligations.BusStaysWellFormed : Prop :=
  (∀ s t : State, s.settings.wf = true → s.busWf = true → step s = .next t → t.busWf = true) ∧
    ∀ s t : State, s.recordsWf = true → s.queue.wf = true → s.mirrorWf = true → s.dueMarksWf = true →
      s.ticketsWf = true → step s = .next t → t.ticketsWf = true

/-- The machine right after reset meets every invariant. -/
def Obligations.ResetMeetsInvariants : Prop := State.reset.wf = true
end

