-- ==== Sys2Proof/Laws/State.lean ====
section
/-! SUPPORT. One lemma for each update of State: what every field holds after it. Each is a conjunction that `simp`
uses as one rewriting rule for each field. -/

namespace Sys2Proof.Machine

variable (s : State)

@[simp] theorem State.setTime_fields (t : Time) :
    (s.setTime t).time = t ∧ (s.setTime t).resetting = s.resetting ∧ (s.setTime t).cause = s.cause ∧
    (s.setTime t).adsel = s.adsel ∧ (s.setTime t).settings = s.settings ∧ (s.setTime t).queue = s.queue ∧
    (s.setTime t).engine = s.engine ∧ (s.setTime t).monitor = s.monitor ∧ (s.setTime t).leases = s.leases ∧
    (s.setTime t).mirror = s.mirror ∧ (s.setTime t).dueMarks = s.dueMarks ∧ (s.setTime t).records = s.records ∧
    (s.setTime t).portA = s.portA ∧ (s.setTime t).portB = s.portB ∧ (s.setTime t).portC = s.portC ∧
    (s.setTime t).pins = s.pins ∧ (s.setTime t).pending = s.pending := by
  simp [State.setTime]

@[simp] theorem State.setSettings_fields (x : Settings) :
    (s.setSettings x).settings = x ∧ (s.setSettings x).resetting = s.resetting ∧
    (s.setSettings x).cause = s.cause ∧ (s.setSettings x).adsel = s.adsel ∧ (s.setSettings x).time = s.time ∧
    (s.setSettings x).queue = s.queue ∧ (s.setSettings x).engine = s.engine ∧
    (s.setSettings x).monitor = s.monitor ∧ (s.setSettings x).leases = s.leases ∧
    (s.setSettings x).mirror = s.mirror ∧ (s.setSettings x).dueMarks = s.dueMarks ∧
    (s.setSettings x).records = s.records ∧ (s.setSettings x).portA = s.portA ∧
    (s.setSettings x).portB = s.portB ∧ (s.setSettings x).portC = s.portC ∧ (s.setSettings x).pins = s.pins ∧
    (s.setSettings x).pending = s.pending := by
  simp [State.setSettings]

@[simp] theorem State.setQueue_fields (q : Queue) :
    (s.setQueue q).queue = q ∧ (s.setQueue q).resetting = s.resetting ∧ (s.setQueue q).cause = s.cause ∧
    (s.setQueue q).adsel = s.adsel ∧ (s.setQueue q).time = s.time ∧ (s.setQueue q).settings = s.settings ∧
    (s.setQueue q).engine = s.engine ∧ (s.setQueue q).monitor = s.monitor ∧ (s.setQueue q).leases = s.leases ∧
    (s.setQueue q).mirror = s.mirror ∧ (s.setQueue q).dueMarks = s.dueMarks ∧
    (s.setQueue q).records = s.records ∧ (s.setQueue q).portA = s.portA ∧ (s.setQueue q).portB = s.portB ∧
    (s.setQueue q).portC = s.portC ∧ (s.setQueue q).pins = s.pins ∧ (s.setQueue q).pending = s.pending := by
  simp [State.setQueue]

@[simp] theorem State.setEngine_fields (e : Engine) :
    (s.setEngine e).engine = e ∧ (s.setEngine e).resetting = s.resetting ∧ (s.setEngine e).cause = s.cause ∧
    (s.setEngine e).adsel = s.adsel ∧ (s.setEngine e).time = s.time ∧ (s.setEngine e).settings = s.settings ∧
    (s.setEngine e).queue = s.queue ∧ (s.setEngine e).monitor = s.monitor ∧ (s.setEngine e).leases = s.leases ∧
    (s.setEngine e).mirror = s.mirror ∧ (s.setEngine e).dueMarks = s.dueMarks ∧
    (s.setEngine e).records = s.records ∧ (s.setEngine e).portA = s.portA ∧ (s.setEngine e).portB = s.portB ∧
    (s.setEngine e).portC = s.portC ∧ (s.setEngine e).pins = s.pins ∧ (s.setEngine e).pending = s.pending := by
  simp [State.setEngine]

@[simp] theorem State.setMonitor_fields (m : Monitor) :
    (s.setMonitor m).monitor = m ∧ (s.setMonitor m).resetting = s.resetting ∧
    (s.setMonitor m).cause = s.cause ∧ (s.setMonitor m).adsel = s.adsel ∧ (s.setMonitor m).time = s.time ∧
    (s.setMonitor m).settings = s.settings ∧ (s.setMonitor m).queue = s.queue ∧
    (s.setMonitor m).engine = s.engine ∧ (s.setMonitor m).leases = s.leases ∧
    (s.setMonitor m).mirror = s.mirror ∧ (s.setMonitor m).dueMarks = s.dueMarks ∧
    (s.setMonitor m).records = s.records ∧ (s.setMonitor m).portA = s.portA ∧
    (s.setMonitor m).portB = s.portB ∧ (s.setMonitor m).portC = s.portC ∧ (s.setMonitor m).pins = s.pins ∧
    (s.setMonitor m).pending = s.pending := by
  simp [State.setMonitor]

@[simp] theorem State.setLeases_fields (l : List Lease) :
    (s.setLeases l).leases = l ∧ (s.setLeases l).resetting = s.resetting ∧ (s.setLeases l).cause = s.cause ∧
    (s.setLeases l).adsel = s.adsel ∧ (s.setLeases l).time = s.time ∧ (s.setLeases l).settings = s.settings ∧
    (s.setLeases l).queue = s.queue ∧ (s.setLeases l).engine = s.engine ∧ (s.setLeases l).monitor = s.monitor ∧
    (s.setLeases l).mirror = s.mirror ∧ (s.setLeases l).dueMarks = s.dueMarks ∧
    (s.setLeases l).records = s.records ∧ (s.setLeases l).portA = s.portA ∧ (s.setLeases l).portB = s.portB ∧
    (s.setLeases l).portC = s.portC ∧ (s.setLeases l).pins = s.pins ∧ (s.setLeases l).pending = s.pending := by
  simp [State.setLeases]

@[simp] theorem State.setMirror_fields (m : List (Option Entry)) :
    (s.setMirror m).mirror = m ∧ (s.setMirror m).resetting = s.resetting ∧ (s.setMirror m).cause = s.cause ∧
    (s.setMirror m).adsel = s.adsel ∧ (s.setMirror m).time = s.time ∧ (s.setMirror m).settings = s.settings ∧
    (s.setMirror m).queue = s.queue ∧ (s.setMirror m).engine = s.engine ∧ (s.setMirror m).monitor = s.monitor ∧
    (s.setMirror m).leases = s.leases ∧ (s.setMirror m).dueMarks = s.dueMarks ∧
    (s.setMirror m).records = s.records ∧ (s.setMirror m).portA = s.portA ∧ (s.setMirror m).portB = s.portB ∧
    (s.setMirror m).portC = s.portC ∧ (s.setMirror m).pins = s.pins ∧ (s.setMirror m).pending = s.pending := by
  simp [State.setMirror]

@[simp] theorem State.setDueMarks_fields (d : List DueMark) :
    (s.setDueMarks d).dueMarks = d ∧ (s.setDueMarks d).resetting = s.resetting ∧
    (s.setDueMarks d).cause = s.cause ∧ (s.setDueMarks d).adsel = s.adsel ∧ (s.setDueMarks d).time = s.time ∧
    (s.setDueMarks d).settings = s.settings ∧ (s.setDueMarks d).queue = s.queue ∧
    (s.setDueMarks d).engine = s.engine ∧ (s.setDueMarks d).monitor = s.monitor ∧
    (s.setDueMarks d).leases = s.leases ∧ (s.setDueMarks d).mirror = s.mirror ∧
    (s.setDueMarks d).records = s.records ∧ (s.setDueMarks d).portA = s.portA ∧
    (s.setDueMarks d).portB = s.portB ∧ (s.setDueMarks d).portC = s.portC ∧ (s.setDueMarks d).pins = s.pins ∧
    (s.setDueMarks d).pending = s.pending := by
  simp [State.setDueMarks]

@[simp] theorem State.setRecords_fields (r : PerDirect Records) :
    (s.setRecords r).records = r ∧ (s.setRecords r).resetting = s.resetting ∧
    (s.setRecords r).cause = s.cause ∧ (s.setRecords r).adsel = s.adsel ∧ (s.setRecords r).time = s.time ∧
    (s.setRecords r).settings = s.settings ∧ (s.setRecords r).queue = s.queue ∧
    (s.setRecords r).engine = s.engine ∧ (s.setRecords r).monitor = s.monitor ∧
    (s.setRecords r).leases = s.leases ∧ (s.setRecords r).mirror = s.mirror ∧
    (s.setRecords r).dueMarks = s.dueMarks ∧ (s.setRecords r).portA = s.portA ∧
    (s.setRecords r).portB = s.portB ∧ (s.setRecords r).portC = s.portC ∧ (s.setRecords r).pins = s.pins ∧
    (s.setRecords r).pending = s.pending := by
  simp [State.setRecords]

@[simp] theorem State.setPortC_fields (p : PortC) :
    (s.setPortC p).portC = p ∧ (s.setPortC p).resetting = s.resetting ∧ (s.setPortC p).cause = s.cause ∧
    (s.setPortC p).adsel = s.adsel ∧ (s.setPortC p).time = s.time ∧ (s.setPortC p).settings = s.settings ∧
    (s.setPortC p).queue = s.queue ∧ (s.setPortC p).engine = s.engine ∧ (s.setPortC p).monitor = s.monitor ∧
    (s.setPortC p).leases = s.leases ∧ (s.setPortC p).mirror = s.mirror ∧
    (s.setPortC p).dueMarks = s.dueMarks ∧ (s.setPortC p).records = s.records ∧
    (s.setPortC p).portA = s.portA ∧ (s.setPortC p).portB = s.portB ∧ (s.setPortC p).pins = s.pins ∧
    (s.setPortC p).pending = s.pending := by
  simp [State.setPortC]

@[simp] theorem State.setPins_fields (p : Pins) :
    (s.setPins p).pins = p ∧ (s.setPins p).resetting = s.resetting ∧ (s.setPins p).cause = s.cause ∧
    (s.setPins p).adsel = s.adsel ∧ (s.setPins p).time = s.time ∧ (s.setPins p).settings = s.settings ∧
    (s.setPins p).queue = s.queue ∧ (s.setPins p).engine = s.engine ∧ (s.setPins p).monitor = s.monitor ∧
    (s.setPins p).leases = s.leases ∧ (s.setPins p).mirror = s.mirror ∧ (s.setPins p).dueMarks = s.dueMarks ∧
    (s.setPins p).records = s.records ∧ (s.setPins p).portA = s.portA ∧ (s.setPins p).portB = s.portB ∧
    (s.setPins p).portC = s.portC ∧ (s.setPins p).pending = s.pending := by
  simp [State.setPins]

@[simp] theorem State.setPending_fields (p : List Instr) :
    (s.setPending p).pending = p ∧ (s.setPending p).resetting = s.resetting ∧
    (s.setPending p).cause = s.cause ∧ (s.setPending p).adsel = s.adsel ∧ (s.setPending p).time = s.time ∧
    (s.setPending p).settings = s.settings ∧ (s.setPending p).queue = s.queue ∧
    (s.setPending p).engine = s.engine ∧ (s.setPending p).monitor = s.monitor ∧
    (s.setPending p).leases = s.leases ∧ (s.setPending p).mirror = s.mirror ∧
    (s.setPending p).dueMarks = s.dueMarks ∧ (s.setPending p).records = s.records ∧
    (s.setPending p).portA = s.portA ∧ (s.setPending p).portB = s.portB ∧ (s.setPending p).portC = s.portC ∧
    (s.setPending p).pins = s.pins := by
  simp [State.setPending]

@[simp] theorem State.setTw_fields (port : TwPort) (x : Tw) :
    (s.setTw port x).resetting = s.resetting ∧ (s.setTw port x).cause = s.cause ∧
    (s.setTw port x).adsel = s.adsel ∧ (s.setTw port x).time = s.time ∧
    (s.setTw port x).settings = s.settings ∧ (s.setTw port x).queue = s.queue ∧
    (s.setTw port x).engine = s.engine ∧ (s.setTw port x).monitor = s.monitor ∧
    (s.setTw port x).leases = s.leases ∧ (s.setTw port x).mirror = s.mirror ∧
    (s.setTw port x).dueMarks = s.dueMarks ∧ (s.setTw port x).records = s.records ∧
    (s.setTw port x).portC = s.portC ∧ (s.setTw port x).pins = s.pins ∧ (s.setTw port x).pending = s.pending := by
  cases port <;> simp [State.setTw]

@[simp] theorem State.setTw_a_ports (x : Tw) : (s.setTw .a x).portA = x ∧ (s.setTw .a x).portB = s.portB := ⟨rfl, rfl⟩

@[simp] theorem State.setTw_b_ports (x : Tw) : (s.setTw .b x).portB = x ∧ (s.setTw .b x).portA = s.portA := ⟨rfl, rfl⟩

@[simp] theorem State.tw_a : s.tw .a = s.portA := rfl

@[simp] theorem State.tw_b : s.tw .b = s.portB := rfl

@[simp] theorem State.setTw_tw (port : TwPort) (x : Tw) : (s.setTw port x).tw port = x := by cases port <;> rfl

@[simp] theorem State.setRec_fields (o : Direct) (r : Records) :
    (s.setRec o r).records = s.records.set o r ∧ (s.setRec o r).resetting = s.resetting ∧
    (s.setRec o r).cause = s.cause ∧ (s.setRec o r).adsel = s.adsel ∧ (s.setRec o r).time = s.time ∧
    (s.setRec o r).settings = s.settings ∧ (s.setRec o r).queue = s.queue ∧ (s.setRec o r).engine = s.engine ∧
    (s.setRec o r).monitor = s.monitor ∧ (s.setRec o r).leases = s.leases ∧ (s.setRec o r).mirror = s.mirror ∧
    (s.setRec o r).dueMarks = s.dueMarks ∧ (s.setRec o r).portA = s.portA ∧ (s.setRec o r).portB = s.portB ∧
    (s.setRec o r).portC = s.portC ∧ (s.setRec o r).pins = s.pins ∧ (s.setRec o r).pending = s.pending := by
  simp [State.setRec]

@[simp] theorem State.setEntry_fields (i : Nat) (e : Option Entry) :
    (s.setEntry i e).mirror = s.mirror.set i e ∧ (s.setEntry i e).resetting = s.resetting ∧
    (s.setEntry i e).cause = s.cause ∧ (s.setEntry i e).adsel = s.adsel ∧ (s.setEntry i e).time = s.time ∧
    (s.setEntry i e).settings = s.settings ∧ (s.setEntry i e).queue = s.queue ∧
    (s.setEntry i e).engine = s.engine ∧ (s.setEntry i e).monitor = s.monitor ∧
    (s.setEntry i e).leases = s.leases ∧ (s.setEntry i e).dueMarks = s.dueMarks ∧
    (s.setEntry i e).records = s.records ∧ (s.setEntry i e).portA = s.portA ∧
    (s.setEntry i e).portB = s.portB ∧ (s.setEntry i e).portC = s.portC ∧ (s.setEntry i e).pins = s.pins ∧
    (s.setEntry i e).pending = s.pending := by
  simp [State.setEntry]

@[simp] theorem State.setQueued_fields (o : Origin) (l : List Ticket) :
    (s.setQueued o l).queue = { s.queue with queued := s.queue.queued.set o l } ∧
    (s.setQueued o l).resetting = s.resetting ∧ (s.setQueued o l).cause = s.cause ∧
    (s.setQueued o l).adsel = s.adsel ∧ (s.setQueued o l).time = s.time ∧
    (s.setQueued o l).settings = s.settings ∧ (s.setQueued o l).engine = s.engine ∧
    (s.setQueued o l).monitor = s.monitor ∧ (s.setQueued o l).leases = s.leases ∧
    (s.setQueued o l).mirror = s.mirror ∧ (s.setQueued o l).dueMarks = s.dueMarks ∧
    (s.setQueued o l).records = s.records ∧ (s.setQueued o l).portA = s.portA ∧
    (s.setQueued o l).portB = s.portB ∧ (s.setQueued o l).portC = s.portC ∧ (s.setQueued o l).pins = s.pins ∧
    (s.setQueued o l).pending = s.pending := by
  simp [State.setQueued]

@[simp] theorem State.setActive_fields (t : Option Ticket) :
    (s.setActive t).queue = { s.queue with active := t } ∧ (s.setActive t).resetting = s.resetting ∧
    (s.setActive t).cause = s.cause ∧ (s.setActive t).adsel = s.adsel ∧ (s.setActive t).time = s.time ∧
    (s.setActive t).settings = s.settings ∧ (s.setActive t).engine = s.engine ∧
    (s.setActive t).monitor = s.monitor ∧ (s.setActive t).leases = s.leases ∧
    (s.setActive t).mirror = s.mirror ∧ (s.setActive t).dueMarks = s.dueMarks ∧
    (s.setActive t).records = s.records ∧ (s.setActive t).portA = s.portA ∧ (s.setActive t).portB = s.portB ∧
    (s.setActive t).portC = s.portC ∧ (s.setActive t).pins = s.pins ∧ (s.setActive t).pending = s.pending := by
  simp [State.setActive]

@[simp] theorem State.setWaiting_fields (o : Direct) (l : List Ticket) :
    (s.setWaiting o l).queue = { s.queue with waiting := s.queue.waiting.set o l } ∧
    (s.setWaiting o l).resetting = s.resetting ∧ (s.setWaiting o l).cause = s.cause ∧
    (s.setWaiting o l).adsel = s.adsel ∧ (s.setWaiting o l).time = s.time ∧
    (s.setWaiting o l).settings = s.settings ∧ (s.setWaiting o l).engine = s.engine ∧
    (s.setWaiting o l).monitor = s.monitor ∧ (s.setWaiting o l).leases = s.leases ∧
    (s.setWaiting o l).mirror = s.mirror ∧ (s.setWaiting o l).dueMarks = s.dueMarks ∧
    (s.setWaiting o l).records = s.records ∧ (s.setWaiting o l).portA = s.portA ∧
    (s.setWaiting o l).portB = s.portB ∧ (s.setWaiting o l).portC = s.portC ∧
    (s.setWaiting o l).pins = s.pins ∧ (s.setWaiting o l).pending = s.pending := by
  simp [State.setWaiting]

@[simp] theorem State.setFreeTime_fields (f : Option FreeCount) :
    (s.setFreeTime f).monitor = { s.monitor with free := f } ∧ (s.setFreeTime f).resetting = s.resetting ∧
    (s.setFreeTime f).cause = s.cause ∧ (s.setFreeTime f).adsel = s.adsel ∧ (s.setFreeTime f).time = s.time ∧
    (s.setFreeTime f).settings = s.settings ∧ (s.setFreeTime f).queue = s.queue ∧
    (s.setFreeTime f).engine = s.engine ∧ (s.setFreeTime f).leases = s.leases ∧
    (s.setFreeTime f).mirror = s.mirror ∧ (s.setFreeTime f).dueMarks = s.dueMarks ∧
    (s.setFreeTime f).records = s.records ∧ (s.setFreeTime f).portA = s.portA ∧
    (s.setFreeTime f).portB = s.portB ∧ (s.setFreeTime f).portC = s.portC ∧ (s.setFreeTime f).pins = s.pins ∧
    (s.setFreeTime f).pending = s.pending := by
  simp [State.setFreeTime]

@[simp] theorem State.settle_fields :
    s.settle.pins = s.outputs ∧ s.settle.resetting = s.resetting ∧ s.settle.cause = s.cause ∧
    s.settle.adsel = s.adsel ∧ s.settle.time = s.time ∧ s.settle.settings = s.settings ∧
    s.settle.queue = s.queue ∧ s.settle.engine = s.engine ∧ s.settle.monitor = s.monitor ∧
    s.settle.leases = s.leases ∧ s.settle.mirror = s.mirror ∧ s.settle.dueMarks = s.dueMarks ∧
    s.settle.records = s.records ∧ s.settle.portA = s.portA ∧ s.settle.portB = s.portB ∧
    s.settle.portC = s.portC ∧ s.settle.pending = s.pending := by
  simp [State.settle]

/-! ### One value for each origin -/

variable {α : Type}

@[simp] theorem PerDirect.get_set (x : PerDirect α) (o : Direct) (v : α) : (x.set o v).get o = v := by
  cases o <;> rfl

theorem PerDirect.get_set_of_ne (x : PerDirect α) (o q : Direct) (v : α) (h : q ≠ o) :
    (x.set o v).get q = x.get q := by
  cases o <;> cases q <;> first | rfl | exact absurd rfl h

theorem PerDirect.get_set_ite (x : PerDirect α) (o q : Direct) (v : α) :
    (x.set o v).get q = if q = o then v else x.get q := by
  cases o <;> cases q <;> rfl

@[simp] theorem PerOrigin.get_set (x : PerOrigin α) (o : Origin) (v : α) : (x.set o v).get o = v := by
  cases o <;> rfl

theorem PerOrigin.get_set_of_ne (x : PerOrigin α) (o q : Origin) (v : α) (h : q ≠ o) :
    (x.set o v).get q = x.get q := by
  cases o <;> cases q <;> first | rfl | exact absurd rfl h

@[simp] theorem State.recOf_setRec (o : Direct) (r : Records) : (s.setRec o r).recOf o = r := by
  simp [State.recOf]

theorem State.recOf_setRec_of_ne (o q : Direct) (r : Records) (h : q ≠ o) : (s.setRec o r).recOf q = s.recOf q := by
  simp [State.recOf, PerDirect.get_set_of_ne _ _ _ _ h]

@[simp] theorem State.queuedOf_setQueued (o : Origin) (l : List Ticket) : (s.setQueued o l).queuedOf o = l := by
  simp [State.queuedOf]

@[simp] theorem State.waitingOf_setWaiting (o : Direct) (l : List Ticket) : (s.setWaiting o l).waitingOf o = l := by
  simp [State.waitingOf]

theorem State.entry_setEntry (i : Nat) (e : Option Entry) (h : i < s.mirror.length) :
    (s.setEntry i e).entry i = e := by
  simp [State.entry, h]

theorem State.entry_setEntry_of_ne (i j : Nat) (e : Option Entry) (h : j ≠ i) :
    (s.setEntry i e).entry j = s.entry j := by
  simp [State.entry, List.getElem?_set_ne (Ne.symm h)]

/-- An entry that is there has its place in the mirror. -/
theorem State.entry_lt (i : Nat) (e : Entry) (h : s.entry i = some e) : i < s.mirror.length := by
  unfold State.entry at h
  by_contra hn
  simp [List.getElem?_eq_none (Nat.le_of_not_lt hn)] at h

/-- The outputs read no pin. -/
@[simp] theorem State.outputs_setPins (p : Pins) : (s.setPins p).outputs = s.outputs := rfl

@[simp] theorem State.outputs_settle : s.settle.outputs = s.outputs := rfl

end Sys2Proof.Machine
end

