-- ==== Sys2Proof/Laws/Frames.lean ====
section
/-! SUPPORT. What each shared operation leaves as it was, in one lemma each: a conjunction that `simp` uses as one
rewriting rule for each field it does not change. -/

namespace Sys2Proof.Machine

variable (s : State)

@[simp] theorem State.notify_frame (o : Direct) (k : NoticeKind) (b : Subject) (v : List Byte) :
    (s.notify o k b v).resetting = s.resetting ∧ (s.notify o k b v).cause = s.cause ∧
    (s.notify o k b v).adsel = s.adsel ∧ (s.notify o k b v).time = s.time ∧
    (s.notify o k b v).settings = s.settings ∧ (s.notify o k b v).queue = s.queue ∧
    (s.notify o k b v).engine = s.engine ∧ (s.notify o k b v).monitor = s.monitor ∧
    (s.notify o k b v).leases = s.leases ∧ (s.notify o k b v).mirror = s.mirror ∧
    (s.notify o k b v).dueMarks = s.dueMarks ∧ (s.notify o k b v).portA = s.portA ∧
    (s.notify o k b v).portB = s.portB ∧ (s.notify o k b v).portC = s.portC ∧
    (s.notify o k b v).pins = s.pins ∧ (s.notify o k b v).pending = s.pending := by
  simp [State.notify]

@[simp] theorem State.notifyIf_frame (m : Bool) (o : Direct) (k : NoticeKind) (b : Subject) (v : List Byte) :
    (s.notifyIf m o k b v).resetting = s.resetting ∧ (s.notifyIf m o k b v).cause = s.cause ∧
    (s.notifyIf m o k b v).adsel = s.adsel ∧ (s.notifyIf m o k b v).time = s.time ∧
    (s.notifyIf m o k b v).settings = s.settings ∧ (s.notifyIf m o k b v).queue = s.queue ∧
    (s.notifyIf m o k b v).engine = s.engine ∧ (s.notifyIf m o k b v).monitor = s.monitor ∧
    (s.notifyIf m o k b v).leases = s.leases ∧ (s.notifyIf m o k b v).mirror = s.mirror ∧
    (s.notifyIf m o k b v).dueMarks = s.dueMarks ∧ (s.notifyIf m o k b v).portA = s.portA ∧
    (s.notifyIf m o k b v).portB = s.portB ∧ (s.notifyIf m o k b v).portC = s.portC ∧
    (s.notifyIf m o k b v).pins = s.pins ∧ (s.notifyIf m o k b v).pending = s.pending := by
  cases m <;> simp [State.notifyIf]

@[simp] theorem State.notifyEach_frame (m : PerDirect Bool) (k : NoticeKind) (b : Subject) (v : List Byte) :
    (s.notifyEach m k b v).resetting = s.resetting ∧ (s.notifyEach m k b v).cause = s.cause ∧
    (s.notifyEach m k b v).adsel = s.adsel ∧ (s.notifyEach m k b v).time = s.time ∧
    (s.notifyEach m k b v).settings = s.settings ∧ (s.notifyEach m k b v).queue = s.queue ∧
    (s.notifyEach m k b v).engine = s.engine ∧ (s.notifyEach m k b v).monitor = s.monitor ∧
    (s.notifyEach m k b v).leases = s.leases ∧ (s.notifyEach m k b v).mirror = s.mirror ∧
    (s.notifyEach m k b v).dueMarks = s.dueMarks ∧ (s.notifyEach m k b v).portA = s.portA ∧
    (s.notifyEach m k b v).portB = s.portB ∧ (s.notifyEach m k b v).portC = s.portC ∧
    (s.notifyEach m k b v).pins = s.pins ∧ (s.notifyEach m k b v).pending = s.pending := by
  simp [State.notifyEach]

@[simp] theorem State.putReady_frame (o : Direct) (f : List Byte) :
    (s.putReady o f).resetting = s.resetting ∧ (s.putReady o f).cause = s.cause ∧
    (s.putReady o f).adsel = s.adsel ∧ (s.putReady o f).time = s.time ∧
    (s.putReady o f).settings = s.settings ∧ (s.putReady o f).queue = s.queue ∧
    (s.putReady o f).engine = s.engine ∧ (s.putReady o f).monitor = s.monitor ∧
    (s.putReady o f).leases = s.leases ∧ (s.putReady o f).mirror = s.mirror ∧
    (s.putReady o f).dueMarks = s.dueMarks ∧ (s.putReady o f).records = s.records ∧
    (s.putReady o f).pins = s.pins ∧ (s.putReady o f).pending = s.pending := by
  cases o <;> simp [State.putReady]

@[simp] theorem State.awaitTicket_frame (o : Direct) (n : Nat) :
    (s.awaitTicket o n).resetting = s.resetting ∧ (s.awaitTicket o n).cause = s.cause ∧
    (s.awaitTicket o n).adsel = s.adsel ∧ (s.awaitTicket o n).time = s.time ∧
    (s.awaitTicket o n).settings = s.settings ∧ (s.awaitTicket o n).queue = s.queue ∧
    (s.awaitTicket o n).engine = s.engine ∧ (s.awaitTicket o n).monitor = s.monitor ∧
    (s.awaitTicket o n).leases = s.leases ∧ (s.awaitTicket o n).mirror = s.mirror ∧
    (s.awaitTicket o n).dueMarks = s.dueMarks ∧ (s.awaitTicket o n).records = s.records ∧
    (s.awaitTicket o n).pins = s.pins ∧ (s.awaitTicket o n).pending = s.pending := by
  cases o <;> simp [State.awaitTicket]

@[simp] theorem State.stopWaiting_frame (o : Direct) :
    (s.stopWaiting o).resetting = s.resetting ∧ (s.stopWaiting o).cause = s.cause ∧
    (s.stopWaiting o).adsel = s.adsel ∧ (s.stopWaiting o).time = s.time ∧
    (s.stopWaiting o).settings = s.settings ∧ (s.stopWaiting o).engine = s.engine ∧
    (s.stopWaiting o).monitor = s.monitor ∧ (s.stopWaiting o).leases = s.leases ∧
    (s.stopWaiting o).mirror = s.mirror ∧ (s.stopWaiting o).dueMarks = s.dueMarks ∧
    (s.stopWaiting o).records = s.records ∧ (s.stopWaiting o).portA = s.portA ∧
    (s.stopWaiting o).portB = s.portB ∧ (s.stopWaiting o).portC = s.portC ∧ (s.stopWaiting o).pins = s.pins ∧
    (s.stopWaiting o).pending = s.pending := by
  unfold State.stopWaiting; split <;> simp

@[simp] theorem State.replaceSlot_frame (o : Direct) (h : Option Instr) :
    (s.replaceSlot o h).resetting = s.resetting ∧ (s.replaceSlot o h).cause = s.cause ∧
    (s.replaceSlot o h).adsel = s.adsel ∧ (s.replaceSlot o h).time = s.time ∧
    (s.replaceSlot o h).settings = s.settings ∧ (s.replaceSlot o h).engine = s.engine ∧
    (s.replaceSlot o h).monitor = s.monitor ∧ (s.replaceSlot o h).leases = s.leases ∧
    (s.replaceSlot o h).mirror = s.mirror ∧ (s.replaceSlot o h).dueMarks = s.dueMarks ∧
    (s.replaceSlot o h).records = s.records ∧ (s.replaceSlot o h).pins = s.pins ∧
    (s.replaceSlot o h).pending = s.pending := by
  cases o <;> simp [State.replaceSlot]

@[simp] theorem State.frameUnshown_frame (o : Direct) :
    (s.frameUnshown o).resetting = s.resetting ∧ (s.frameUnshown o).cause = s.cause ∧
    (s.frameUnshown o).adsel = s.adsel ∧ (s.frameUnshown o).time = s.time ∧
    (s.frameUnshown o).settings = s.settings ∧ (s.frameUnshown o).queue = s.queue ∧
    (s.frameUnshown o).engine = s.engine ∧ (s.frameUnshown o).monitor = s.monitor ∧
    (s.frameUnshown o).leases = s.leases ∧ (s.frameUnshown o).mirror = s.mirror ∧
    (s.frameUnshown o).dueMarks = s.dueMarks ∧ (s.frameUnshown o).records = s.records ∧
    (s.frameUnshown o).pins = s.pins ∧ (s.frameUnshown o).pending = s.pending := by
  cases o <;> simp [State.frameUnshown]

@[simp] theorem State.withFrame_frame (o : Direct) (i : Instr) :
    (s.withFrame o i).resetting = s.resetting ∧ (s.withFrame o i).cause = s.cause ∧
    (s.withFrame o i).adsel = s.adsel ∧ (s.withFrame o i).time = s.time ∧
    (s.withFrame o i).settings = s.settings ∧ (s.withFrame o i).engine = s.engine ∧
    (s.withFrame o i).monitor = s.monitor ∧ (s.withFrame o i).leases = s.leases ∧
    (s.withFrame o i).mirror = s.mirror ∧ (s.withFrame o i).dueMarks = s.dueMarks ∧
    (s.withFrame o i).records = s.records ∧ (s.withFrame o i).pins = s.pins ∧
    (s.withFrame o i).pending = s.pending := by
  simp [State.withFrame]

@[simp] theorem State.reply_frame (o : Direct) (r : Reply) :
    (s.reply o r).resetting = s.resetting ∧ (s.reply o r).cause = s.cause ∧ (s.reply o r).adsel = s.adsel ∧
    (s.reply o r).time = s.time ∧ (s.reply o r).settings = s.settings ∧ (s.reply o r).queue = s.queue ∧
    (s.reply o r).engine = s.engine ∧ (s.reply o r).monitor = s.monitor ∧ (s.reply o r).leases = s.leases ∧
    (s.reply o r).mirror = s.mirror ∧ (s.reply o r).dueMarks = s.dueMarks ∧ (s.reply o r).records = s.records ∧
    (s.reply o r).pins = s.pins ∧ (s.reply o r).pending = s.pending := by
  cases r <;> simp [State.reply]

@[simp] theorem State.enqueue_frame (t : Ticket) :
    (s.enqueue t).resetting = s.resetting ∧ (s.enqueue t).cause = s.cause ∧ (s.enqueue t).adsel = s.adsel ∧
    (s.enqueue t).time = s.time ∧ (s.enqueue t).settings = s.settings ∧ (s.enqueue t).engine = s.engine ∧
    (s.enqueue t).monitor = s.monitor ∧ (s.enqueue t).leases = s.leases ∧ (s.enqueue t).mirror = s.mirror ∧
    (s.enqueue t).dueMarks = s.dueMarks ∧ (s.enqueue t).records = s.records ∧ (s.enqueue t).portA = s.portA ∧
    (s.enqueue t).portB = s.portB ∧ (s.enqueue t).portC = s.portC ∧ (s.enqueue t).pins = s.pins ∧
    (s.enqueue t).pending = s.pending := by
  simp [State.enqueue]

@[simp] theorem State.admit_frame (o : Direct) (r : Request) (w : Bool) :
    (s.admitTicket o r w).resetting = s.resetting ∧ (s.admitTicket o r w).cause = s.cause ∧
    (s.admitTicket o r w).adsel = s.adsel ∧ (s.admitTicket o r w).time = s.time ∧ (s.admitTicket o r w).settings = s.settings ∧
    (s.admitTicket o r w).engine = s.engine ∧ (s.admitTicket o r w).monitor = s.monitor ∧
    (s.admitTicket o r w).leases = s.leases ∧ (s.admitTicket o r w).mirror = s.mirror ∧
    (s.admitTicket o r w).dueMarks = s.dueMarks ∧ (s.admitTicket o r w).records = s.records ∧
    (s.admitTicket o r w).portA = s.portA ∧ (s.admitTicket o r w).portB = s.portB ∧ (s.admitTicket o r w).portC = s.portC ∧
    (s.admitTicket o r w).pins = s.pins ∧ (s.admitTicket o r w).pending = s.pending := by
  simp [State.admitTicket]

@[simp] theorem State.dequeue_frame (o : Origin) (n : Nat) :
    (s.dequeue o n).resetting = s.resetting ∧ (s.dequeue o n).cause = s.cause ∧
    (s.dequeue o n).adsel = s.adsel ∧ (s.dequeue o n).time = s.time ∧ (s.dequeue o n).settings = s.settings ∧
    (s.dequeue o n).engine = s.engine ∧ (s.dequeue o n).monitor = s.monitor ∧
    (s.dequeue o n).leases = s.leases ∧ (s.dequeue o n).mirror = s.mirror ∧
    (s.dequeue o n).dueMarks = s.dueMarks ∧ (s.dequeue o n).records = s.records ∧
    (s.dequeue o n).portA = s.portA ∧ (s.dequeue o n).portB = s.portB ∧ (s.dequeue o n).portC = s.portC ∧
    (s.dequeue o n).pins = s.pins ∧ (s.dequeue o n).pending = s.pending := by
  simp [State.dequeue]

@[simp] theorem State.clearDue_frame (i : Nat) :
    (s.clearDue i).resetting = s.resetting ∧ (s.clearDue i).cause = s.cause ∧ (s.clearDue i).adsel = s.adsel ∧
    (s.clearDue i).time = s.time ∧ (s.clearDue i).settings = s.settings ∧ (s.clearDue i).queue = s.queue ∧
    (s.clearDue i).engine = s.engine ∧ (s.clearDue i).monitor = s.monitor ∧ (s.clearDue i).leases = s.leases ∧
    (s.clearDue i).mirror = s.mirror ∧ (s.clearDue i).records = s.records ∧ (s.clearDue i).portA = s.portA ∧
    (s.clearDue i).portB = s.portB ∧ (s.clearDue i).portC = s.portC ∧ (s.clearDue i).pins = s.pins ∧
    (s.clearDue i).pending = s.pending := by
  simp [State.clearDue]

@[simp] theorem State.markDue_frame (m : DueMark) :
    (s.markDue m).resetting = s.resetting ∧ (s.markDue m).cause = s.cause ∧ (s.markDue m).adsel = s.adsel ∧
    (s.markDue m).time = s.time ∧ (s.markDue m).settings = s.settings ∧ (s.markDue m).queue = s.queue ∧
    (s.markDue m).engine = s.engine ∧ (s.markDue m).monitor = s.monitor ∧ (s.markDue m).leases = s.leases ∧
    (s.markDue m).mirror = s.mirror ∧ (s.markDue m).records = s.records ∧ (s.markDue m).portA = s.portA ∧
    (s.markDue m).portB = s.portB ∧ (s.markDue m).portC = s.portC ∧ (s.markDue m).pins = s.pins ∧
    (s.markDue m).pending = s.pending := by
  unfold State.markDue; split <;> simp

@[simp] theorem State.posted_frame (i : Nat) (e : Entry) :
    (s.posted i e).resetting = s.resetting ∧ (s.posted i e).cause = s.cause ∧ (s.posted i e).adsel = s.adsel ∧
    (s.posted i e).time = s.time ∧ (s.posted i e).settings = s.settings ∧ (s.posted i e).engine = s.engine ∧
    (s.posted i e).monitor = s.monitor ∧ (s.posted i e).leases = s.leases ∧
    (s.posted i e).records = s.records ∧ (s.posted i e).portA = s.portA ∧ (s.posted i e).portB = s.portB ∧
    (s.posted i e).portC = s.portC ∧ (s.posted i e).pins = s.pins ∧ (s.posted i e).pending = s.pending := by
  simp [State.posted]

/-- Trying posts changes the queue, the mirror and the due marks alone. -/
@[simp] theorem State.postEach_frame (l : List DueMark) : ∀ s : State,
    (State.postEach l s).resetting = s.resetting ∧ (State.postEach l s).cause = s.cause ∧
    (State.postEach l s).adsel = s.adsel ∧ (State.postEach l s).time = s.time ∧
    (State.postEach l s).settings = s.settings ∧ (State.postEach l s).engine = s.engine ∧
    (State.postEach l s).monitor = s.monitor ∧ (State.postEach l s).leases = s.leases ∧
    (State.postEach l s).records = s.records ∧ (State.postEach l s).portA = s.portA ∧
    (State.postEach l s).portB = s.portB ∧ (State.postEach l s).portC = s.portC ∧
    (State.postEach l s).pins = s.pins ∧ (State.postEach l s).pending = s.pending := by
  induction l with
  | nil => simp [State.postEach]
  | cons m ms ih =>
    intro s
    rw [State.postEach]
    cases he : s.entry m.index with
    | none => exact ih s
    | some e =>
      simp only [State.post]
      cases hp : s.noPlace .p with
      | some status => simp
      | none => simpa using ih (s.posted m.index e)

@[simp] theorem State.retryPosts_frame :
    s.retryPosts.resetting = s.resetting ∧ s.retryPosts.cause = s.cause ∧ s.retryPosts.adsel = s.adsel ∧
    s.retryPosts.time = s.time ∧ s.retryPosts.settings = s.settings ∧ s.retryPosts.engine = s.engine ∧
    s.retryPosts.monitor = s.monitor ∧ s.retryPosts.leases = s.leases ∧ s.retryPosts.records = s.records ∧
    s.retryPosts.portA = s.portA ∧ s.retryPosts.portB = s.portB ∧ s.retryPosts.portC = s.portC ∧
    s.retryPosts.pins = s.pins ∧ s.retryPosts.pending = s.pending := by
  simp [State.retryPosts]

@[simp] theorem State.departed_frame :
    s.departed.resetting = s.resetting ∧ s.departed.cause = s.cause ∧ s.departed.adsel = s.adsel ∧
    s.departed.time = s.time ∧ s.departed.settings = s.settings ∧ s.departed.engine = s.engine ∧
    s.departed.monitor = s.monitor ∧ s.departed.leases = s.leases ∧ s.departed.records = s.records ∧
    s.departed.portA = s.portA ∧ s.departed.portB = s.portB ∧ s.departed.portC = s.portC ∧
    s.departed.pins = s.pins ∧ s.departed.pending = s.pending := by
  simp [State.departed]

@[simp] theorem State.takeDue_frame (i : Nat) (b : Bool) :
    (s.takeDue i b).resetting = s.resetting ∧ (s.takeDue i b).cause = s.cause ∧ (s.takeDue i b).adsel = s.adsel ∧
    (s.takeDue i b).time = s.time ∧ (s.takeDue i b).settings = s.settings ∧ (s.takeDue i b).queue = s.queue ∧
    (s.takeDue i b).engine = s.engine ∧ (s.takeDue i b).monitor = s.monitor ∧ (s.takeDue i b).leases = s.leases ∧
    (s.takeDue i b).records = s.records ∧ (s.takeDue i b).portA = s.portA ∧ (s.takeDue i b).portB = s.portB ∧
    (s.takeDue i b).portC = s.portC ∧ (s.takeDue i b).pins = s.pins ∧ (s.takeDue i b).pending = s.pending := by
  unfold State.takeDue; split <;> simp; split <;> simp

@[simp] theorem State.pollDone_frame (i : Nat) (e : Entry) (v : List Byte) :
    (s.pollDone i e v).resetting = s.resetting ∧ (s.pollDone i e v).cause = s.cause ∧
    (s.pollDone i e v).adsel = s.adsel ∧ (s.pollDone i e v).time = s.time ∧
    (s.pollDone i e v).settings = s.settings ∧ (s.pollDone i e v).queue = s.queue ∧
    (s.pollDone i e v).engine = s.engine ∧ (s.pollDone i e v).monitor = s.monitor ∧
    (s.pollDone i e v).leases = s.leases ∧ (s.pollDone i e v).dueMarks = s.dueMarks ∧
    (s.pollDone i e v).portA = s.portA ∧ (s.pollDone i e v).portB = s.portB ∧
    (s.pollDone i e v).portC = s.portC ∧ (s.pollDone i e v).pins = s.pins ∧
    (s.pollDone i e v).pending = s.pending := by
  unfold State.pollDone; dsimp only; split_ifs <;> simp

@[simp] theorem State.pollFailed_frame (i : Nat) (e : Entry) :
    (s.pollFailed i e).resetting = s.resetting ∧ (s.pollFailed i e).cause = s.cause ∧
    (s.pollFailed i e).adsel = s.adsel ∧ (s.pollFailed i e).time = s.time ∧
    (s.pollFailed i e).settings = s.settings ∧ (s.pollFailed i e).queue = s.queue ∧
    (s.pollFailed i e).engine = s.engine ∧ (s.pollFailed i e).monitor = s.monitor ∧
    (s.pollFailed i e).leases = s.leases ∧ (s.pollFailed i e).dueMarks = s.dueMarks ∧
    (s.pollFailed i e).portA = s.portA ∧ (s.pollFailed i e).portB = s.portB ∧
    (s.pollFailed i e).portC = s.portC ∧ (s.pollFailed i e).pins = s.pins ∧
    (s.pollFailed i e).pending = s.pending := by
  unfold State.pollFailed; dsimp only; split_ifs <;> simp

@[simp] theorem State.pollNeutral_frame (i : Nat) (e : Entry) :
    (s.pollNeutral i e).resetting = s.resetting ∧ (s.pollNeutral i e).cause = s.cause ∧
    (s.pollNeutral i e).adsel = s.adsel ∧ (s.pollNeutral i e).time = s.time ∧
    (s.pollNeutral i e).settings = s.settings ∧ (s.pollNeutral i e).queue = s.queue ∧
    (s.pollNeutral i e).engine = s.engine ∧ (s.pollNeutral i e).monitor = s.monitor ∧
    (s.pollNeutral i e).leases = s.leases ∧ (s.pollNeutral i e).dueMarks = s.dueMarks ∧
    (s.pollNeutral i e).records = s.records ∧ (s.pollNeutral i e).portA = s.portA ∧
    (s.pollNeutral i e).portB = s.portB ∧ (s.pollNeutral i e).portC = s.portC ∧
    (s.pollNeutral i e).pins = s.pins ∧ (s.pollNeutral i e).pending = s.pending := by
  simp [State.pollNeutral]

@[simp] theorem State.pollResult_frame (i : Nat) (r : Result) (v : List Byte) :
    (s.pollResult i r v).resetting = s.resetting ∧ (s.pollResult i r v).cause = s.cause ∧
    (s.pollResult i r v).adsel = s.adsel ∧ (s.pollResult i r v).time = s.time ∧
    (s.pollResult i r v).settings = s.settings ∧ (s.pollResult i r v).queue = s.queue ∧
    (s.pollResult i r v).engine = s.engine ∧ (s.pollResult i r v).monitor = s.monitor ∧
    (s.pollResult i r v).leases = s.leases ∧ (s.pollResult i r v).dueMarks = s.dueMarks ∧
    (s.pollResult i r v).portA = s.portA ∧ (s.pollResult i r v).portB = s.portB ∧
    (s.pollResult i r v).portC = s.portC ∧ (s.pollResult i r v).pins = s.pins ∧
    (s.pollResult i r v).pending = s.pending := by
  unfold State.pollResult; split
  · simp
  · cases r <;> simp

@[simp] theorem State.appendRecord_frame (o : Direct) (x : Record) :
    (s.appendRecord o x).resetting = s.resetting ∧ (s.appendRecord o x).cause = s.cause ∧
    (s.appendRecord o x).adsel = s.adsel ∧ (s.appendRecord o x).time = s.time ∧
    (s.appendRecord o x).settings = s.settings ∧ (s.appendRecord o x).queue = s.queue ∧
    (s.appendRecord o x).engine = s.engine ∧ (s.appendRecord o x).monitor = s.monitor ∧
    (s.appendRecord o x).leases = s.leases ∧ (s.appendRecord o x).mirror = s.mirror ∧
    (s.appendRecord o x).dueMarks = s.dueMarks ∧ (s.appendRecord o x).portA = s.portA ∧
    (s.appendRecord o x).portB = s.portB ∧ (s.appendRecord o x).portC = s.portC ∧
    (s.appendRecord o x).pins = s.pins ∧ (s.appendRecord o x).pending = s.pending := by
  simp [State.appendRecord]

@[simp] theorem State.deliverCopy_frame (o : Direct) (x : Record) :
    (s.deliverCopy o x).resetting = s.resetting ∧ (s.deliverCopy o x).cause = s.cause ∧
    (s.deliverCopy o x).adsel = s.adsel ∧ (s.deliverCopy o x).time = s.time ∧
    (s.deliverCopy o x).settings = s.settings ∧ (s.deliverCopy o x).queue = s.queue ∧
    (s.deliverCopy o x).engine = s.engine ∧ (s.deliverCopy o x).monitor = s.monitor ∧
    (s.deliverCopy o x).leases = s.leases ∧ (s.deliverCopy o x).mirror = s.mirror ∧
    (s.deliverCopy o x).dueMarks = s.dueMarks ∧ (s.deliverCopy o x).records = s.records ∧
    (s.deliverCopy o x).pins = s.pins ∧ (s.deliverCopy o x).pending = s.pending := by
  unfold State.deliverCopy; split
  · split_ifs <;> simp
  · simp

@[simp] theorem State.handOver_frame (o : Direct) (t : Ticket) (r : Result) :
    (s.handOver o t r).resetting = s.resetting ∧ (s.handOver o t r).cause = s.cause ∧
    (s.handOver o t r).adsel = s.adsel ∧ (s.handOver o t r).time = s.time ∧
    (s.handOver o t r).settings = s.settings ∧ (s.handOver o t r).engine = s.engine ∧
    (s.handOver o t r).monitor = s.monitor ∧ (s.handOver o t r).leases = s.leases ∧
    (s.handOver o t r).pins = s.pins ∧ (s.handOver o t r).pending = s.pending := by
  unfold State.handOver; dsimp only; split_ifs <;> simp

@[simp] theorem State.finish_frame (q : Origin) (t : Ticket) (r : Result) :
    (s.finish q t r).resetting = s.resetting ∧ (s.finish q t r).cause = s.cause ∧
    (s.finish q t r).adsel = s.adsel ∧ (s.finish q t r).time = s.time ∧
    (s.finish q t r).settings = s.settings ∧ (s.finish q t r).engine = s.engine ∧
    (s.finish q t r).monitor = s.monitor ∧ (s.finish q t r).leases = s.leases ∧
    (s.finish q t r).pins = s.pins ∧ (s.finish q t r).pending = s.pending := by
  unfold State.finish; split_ifs
  · simp
  · split <;> simp

@[simp] theorem State.endQueued_frame (q : Origin) (t : Ticket) (r : Result) :
    (s.endQueued q t r).resetting = s.resetting ∧ (s.endQueued q t r).cause = s.cause ∧
    (s.endQueued q t r).adsel = s.adsel ∧ (s.endQueued q t r).time = s.time ∧
    (s.endQueued q t r).settings = s.settings ∧ (s.endQueued q t r).engine = s.engine ∧
    (s.endQueued q t r).monitor = s.monitor ∧ (s.endQueued q t r).leases = s.leases ∧
    (s.endQueued q t r).pins = s.pins ∧ (s.endQueued q t r).pending = s.pending := by
  simp [State.endQueued]

@[simp] theorem State.endActive_frame (t : Ticket) (r : Result) :
    (s.endActive t r).resetting = s.resetting ∧ (s.endActive t r).cause = s.cause ∧
    (s.endActive t r).adsel = s.adsel ∧ (s.endActive t r).time = s.time ∧
    (s.endActive t r).settings = s.settings ∧ (s.endActive t r).engine = s.engine ∧
    (s.endActive t r).monitor = s.monitor ∧ (s.endActive t r).leases = s.leases ∧
    (s.endActive t r).pins = s.pins ∧ (s.endActive t r).pending = s.pending := by
  simp [State.endActive]

@[simp] theorem State.requeue_frame (t : Ticket) :
    (s.requeue t).resetting = s.resetting ∧ (s.requeue t).cause = s.cause ∧ (s.requeue t).adsel = s.adsel ∧
    (s.requeue t).time = s.time ∧ (s.requeue t).settings = s.settings ∧ (s.requeue t).engine = s.engine ∧
    (s.requeue t).monitor = s.monitor ∧ (s.requeue t).leases = s.leases ∧ (s.requeue t).mirror = s.mirror ∧
    (s.requeue t).dueMarks = s.dueMarks ∧ (s.requeue t).records = s.records ∧ (s.requeue t).portA = s.portA ∧
    (s.requeue t).portB = s.portB ∧ (s.requeue t).portC = s.portC ∧ (s.requeue t).pins = s.pins ∧
    (s.requeue t).pending = s.pending := by
  simp [State.requeue]

@[simp] theorem State.lost_frame (t : Ticket) :
    (s.lost t).resetting = s.resetting ∧ (s.lost t).cause = s.cause ∧ (s.lost t).adsel = s.adsel ∧
    (s.lost t).time = s.time ∧ (s.lost t).settings = s.settings ∧ (s.lost t).engine = s.engine ∧
    (s.lost t).monitor = s.monitor ∧ (s.lost t).leases = s.leases ∧ (s.lost t).pins = s.pins ∧
    (s.lost t).pending = s.pending := by
  unfold State.lost; split_ifs <;> simp

@[simp] theorem State.see_frame (a b : Bool) :
    (s.see a b).resetting = s.resetting ∧ (s.see a b).cause = s.cause ∧ (s.see a b).adsel = s.adsel ∧
    (s.see a b).time = s.time ∧ (s.see a b).settings = s.settings ∧ (s.see a b).queue = s.queue ∧
    (s.see a b).engine = s.engine ∧ (s.see a b).leases = s.leases ∧ (s.see a b).mirror = s.mirror ∧
    (s.see a b).dueMarks = s.dueMarks ∧ (s.see a b).records = s.records ∧ (s.see a b).portA = s.portA ∧
    (s.see a b).portB = s.portB ∧ (s.see a b).portC = s.portC ∧ (s.see a b).pins = s.pins ∧
    (s.see a b).pending = s.pending := by
  simp [State.see]

@[simp] theorem State.monitorTo_frame (m : MonitorState) :
    (s.monitorTo m).resetting = s.resetting ∧ (s.monitorTo m).cause = s.cause ∧
    (s.monitorTo m).adsel = s.adsel ∧ (s.monitorTo m).time = s.time ∧ (s.monitorTo m).settings = s.settings ∧
    (s.monitorTo m).queue = s.queue ∧ (s.monitorTo m).engine = s.engine ∧ (s.monitorTo m).leases = s.leases ∧
    (s.monitorTo m).mirror = s.mirror ∧ (s.monitorTo m).dueMarks = s.dueMarks ∧
    (s.monitorTo m).records = s.records ∧ (s.monitorTo m).portA = s.portA ∧ (s.monitorTo m).portB = s.portB ∧
    (s.monitorTo m).portC = s.portC ∧ (s.monitorTo m).pins = s.pins ∧ (s.monitorTo m).pending = s.pending := by
  simp [State.monitorTo]

@[simp] theorem State.lineFalls_frame :
    s.lineFalls.resetting = s.resetting ∧ s.lineFalls.cause = s.cause ∧ s.lineFalls.adsel = s.adsel ∧
    s.lineFalls.time = s.time ∧ s.lineFalls.settings = s.settings ∧ s.lineFalls.queue = s.queue ∧
    s.lineFalls.engine = s.engine ∧ s.lineFalls.leases = s.leases ∧ s.lineFalls.mirror = s.mirror ∧
    s.lineFalls.dueMarks = s.dueMarks ∧ s.lineFalls.records = s.records ∧ s.lineFalls.portA = s.portA ∧
    s.lineFalls.portB = s.portB ∧ s.lineFalls.portC = s.portC ∧ s.lineFalls.pins = s.pins ∧
    s.lineFalls.pending = s.pending := by
  unfold State.lineFalls; split_ifs <;> simp

@[simp] theorem State.busBack_frame :
    s.busBack.resetting = s.resetting ∧ s.busBack.cause = s.cause ∧ s.busBack.adsel = s.adsel ∧
    s.busBack.time = s.time ∧ s.busBack.settings = s.settings ∧ s.busBack.queue = s.queue ∧
    s.busBack.monitor = s.monitor ∧ s.busBack.leases = s.leases ∧ s.busBack.mirror = s.mirror ∧
    s.busBack.dueMarks = s.dueMarks ∧ s.busBack.portA = s.portA ∧ s.busBack.portB = s.portB ∧
    s.busBack.portC = s.portC ∧ s.busBack.pins = s.pins ∧ s.busBack.pending = s.pending := by
  unfold State.busBack; split_ifs <;> simp

@[simp] theorem State.engineHearsFree_frame :
    s.engineHearsFree.resetting = s.resetting ∧ s.engineHearsFree.cause = s.cause ∧
    s.engineHearsFree.adsel = s.adsel ∧ s.engineHearsFree.time = s.time ∧
    s.engineHearsFree.settings = s.settings ∧ s.engineHearsFree.queue = s.queue ∧
    s.engineHearsFree.monitor = s.monitor ∧ s.engineHearsFree.leases = s.leases ∧
    s.engineHearsFree.mirror = s.mirror ∧ s.engineHearsFree.dueMarks = s.dueMarks ∧
    s.engineHearsFree.portA = s.portA ∧ s.engineHearsFree.portB = s.portB ∧ s.engineHearsFree.portC = s.portC ∧
    s.engineHearsFree.pins = s.pins ∧ s.engineHearsFree.pending = s.pending := by
  unfold State.engineHearsFree; split <;> simp

@[simp] theorem State.becomeFree_frame :
    s.becomeFree.resetting = s.resetting ∧ s.becomeFree.cause = s.cause ∧ s.becomeFree.adsel = s.adsel ∧
    s.becomeFree.time = s.time ∧ s.becomeFree.settings = s.settings ∧ s.becomeFree.queue = s.queue ∧
    s.becomeFree.leases = s.leases ∧ s.becomeFree.mirror = s.mirror ∧ s.becomeFree.dueMarks = s.dueMarks ∧
    s.becomeFree.portA = s.portA ∧ s.becomeFree.portB = s.portB ∧ s.becomeFree.portC = s.portC ∧
    s.becomeFree.pins = s.pins ∧ s.becomeFree.pending = s.pending := by
  unfold State.becomeFree; split_ifs <;> simp

@[simp] theorem State.enterPhase_frame (st : EngineState) (b : Option Nat) (f : Option Result) (t : Ticket) :
    (s.enterPhase st b f t).resetting = s.resetting ∧ (s.enterPhase st b f t).cause = s.cause ∧
    (s.enterPhase st b f t).adsel = s.adsel ∧ (s.enterPhase st b f t).time = s.time ∧
    (s.enterPhase st b f t).settings = s.settings ∧ (s.enterPhase st b f t).leases = s.leases ∧
    (s.enterPhase st b f t).mirror = s.mirror ∧ (s.enterPhase st b f t).dueMarks = s.dueMarks ∧
    (s.enterPhase st b f t).records = s.records ∧ (s.enterPhase st b f t).portA = s.portA ∧
    (s.enterPhase st b f t).portB = s.portB ∧ (s.enterPhase st b f t).portC = s.portC ∧
    (s.enterPhase st b f t).pins = s.pins ∧ (s.enterPhase st b f t).pending = s.pending := by
  simp [State.enterPhase]

@[simp] theorem State.toStopping_frame (r : Result) (t : Ticket) :
    (s.toStopping r t).resetting = s.resetting ∧ (s.toStopping r t).cause = s.cause ∧
    (s.toStopping r t).adsel = s.adsel ∧ (s.toStopping r t).time = s.time ∧
    (s.toStopping r t).settings = s.settings ∧ (s.toStopping r t).leases = s.leases ∧
    (s.toStopping r t).mirror = s.mirror ∧ (s.toStopping r t).dueMarks = s.dueMarks ∧
    (s.toStopping r t).records = s.records ∧ (s.toStopping r t).portA = s.portA ∧
    (s.toStopping r t).portB = s.portB ∧ (s.toStopping r t).portC = s.portC ∧
    (s.toStopping r t).pins = s.pins ∧ (s.toStopping r t).pending = s.pending := by
  simp [State.toStopping]

@[simp] theorem State.startSeen_frame :
    s.startSeen.resetting = s.resetting ∧ s.startSeen.cause = s.cause ∧ s.startSeen.adsel = s.adsel ∧
    s.startSeen.time = s.time ∧ s.startSeen.settings = s.settings ∧ s.startSeen.queue = s.queue ∧
    s.startSeen.engine = s.engine ∧ s.startSeen.leases = s.leases ∧ s.startSeen.mirror = s.mirror ∧
    s.startSeen.dueMarks = s.dueMarks ∧ s.startSeen.records = s.records ∧ s.startSeen.portA = s.portA ∧
    s.startSeen.portB = s.portB ∧ s.startSeen.portC = s.portC ∧ s.startSeen.pins = s.pins ∧
    s.startSeen.pending = s.pending := by
  simp [State.startSeen]

@[simp] theorem State.foreignStop_frame :
    s.foreignStop.resetting = s.resetting ∧ s.foreignStop.cause = s.cause ∧ s.foreignStop.adsel = s.adsel ∧
    s.foreignStop.time = s.time ∧ s.foreignStop.settings = s.settings ∧ s.foreignStop.queue = s.queue ∧
    s.foreignStop.engine = s.engine ∧ s.foreignStop.leases = s.leases ∧ s.foreignStop.mirror = s.mirror ∧
    s.foreignStop.dueMarks = s.dueMarks ∧ s.foreignStop.records = s.records ∧ s.foreignStop.portA = s.portA ∧
    s.foreignStop.portB = s.portB ∧ s.foreignStop.portC = s.portC ∧ s.foreignStop.pins = s.pins ∧
    s.foreignStop.pending = s.pending := by
  unfold State.foreignStop; split_ifs <;> simp

@[simp] theorem State.stopTaken_frame :
    s.stopTaken.resetting = s.resetting ∧ s.stopTaken.cause = s.cause ∧ s.stopTaken.adsel = s.adsel ∧
    s.stopTaken.time = s.time ∧ s.stopTaken.settings = s.settings ∧ s.stopTaken.queue = s.queue ∧
    s.stopTaken.engine = s.engine ∧ s.stopTaken.leases = s.leases ∧ s.stopTaken.mirror = s.mirror ∧
    s.stopTaken.dueMarks = s.dueMarks ∧ s.stopTaken.records = s.records ∧ s.stopTaken.portA = s.portA ∧
    s.stopTaken.portB = s.portB ∧ s.stopTaken.portC = s.portC ∧ s.stopTaken.pins = s.pins ∧
    s.stopTaken.pending = s.pending := by
  simp [State.stopTaken]

@[simp] theorem State.condSeen_frame (c : Cond) :
    (s.condSeen c).resetting = s.resetting ∧ (s.condSeen c).cause = s.cause ∧ (s.condSeen c).adsel = s.adsel ∧
    (s.condSeen c).time = s.time ∧ (s.condSeen c).settings = s.settings ∧ (s.condSeen c).queue = s.queue ∧
    (s.condSeen c).engine = s.engine ∧ (s.condSeen c).leases = s.leases ∧ (s.condSeen c).mirror = s.mirror ∧
    (s.condSeen c).dueMarks = s.dueMarks ∧ (s.condSeen c).records = s.records ∧
    (s.condSeen c).portA = s.portA ∧ (s.condSeen c).portB = s.portB ∧ (s.condSeen c).portC = s.portC ∧
    (s.condSeen c).pins = s.pins ∧ (s.condSeen c).pending = s.pending := by
  cases c <;> simp [State.condSeen]

@[simp] theorem State.misplaced_frame (c : Cond) (k : Sampled) (t : Ticket) :
    (s.misplaced c k t).resetting = s.resetting ∧ (s.misplaced c k t).cause = s.cause ∧
    (s.misplaced c k t).adsel = s.adsel ∧ (s.misplaced c k t).time = s.time ∧
    (s.misplaced c k t).settings = s.settings ∧ (s.misplaced c k t).leases = s.leases ∧
    (s.misplaced c k t).pins = s.pins ∧ (s.misplaced c k t).pending = s.pending := by
  simp [State.misplaced]

@[simp] theorem State.beginPulse_frame :
    s.beginPulse.resetting = s.resetting ∧ s.beginPulse.cause = s.cause ∧ s.beginPulse.adsel = s.adsel ∧
    s.beginPulse.time = s.time ∧ s.beginPulse.settings = s.settings ∧ s.beginPulse.queue = s.queue ∧
    s.beginPulse.leases = s.leases ∧ s.beginPulse.mirror = s.mirror ∧ s.beginPulse.dueMarks = s.dueMarks ∧
    s.beginPulse.records = s.records ∧ s.beginPulse.portA = s.portA ∧ s.beginPulse.portB = s.portB ∧
    s.beginPulse.portC = s.portC ∧ s.beginPulse.pins = s.pins ∧ s.beginPulse.pending = s.pending := by
  simp [State.beginPulse]

@[simp] theorem State.beginRecoveryStop_frame :
    s.beginRecoveryStop.resetting = s.resetting ∧ s.beginRecoveryStop.cause = s.cause ∧
    s.beginRecoveryStop.adsel = s.adsel ∧ s.beginRecoveryStop.time = s.time ∧
    s.beginRecoveryStop.settings = s.settings ∧ s.beginRecoveryStop.queue = s.queue ∧
    s.beginRecoveryStop.leases = s.leases ∧ s.beginRecoveryStop.mirror = s.mirror ∧
    s.beginRecoveryStop.dueMarks = s.dueMarks ∧ s.beginRecoveryStop.records = s.records ∧
    s.beginRecoveryStop.portA = s.portA ∧ s.beginRecoveryStop.portB = s.portB ∧
    s.beginRecoveryStop.portC = s.portC ∧ s.beginRecoveryStop.pins = s.pins ∧
    s.beginRecoveryStop.pending = s.pending := by
  simp [State.beginRecoveryStop]

@[simp] theorem State.lookAtData_frame :
    s.lookAtData.resetting = s.resetting ∧ s.lookAtData.cause = s.cause ∧ s.lookAtData.adsel = s.adsel ∧
    s.lookAtData.time = s.time ∧ s.lookAtData.settings = s.settings ∧ s.lookAtData.queue = s.queue ∧
    s.lookAtData.leases = s.leases ∧ s.lookAtData.mirror = s.mirror ∧ s.lookAtData.dueMarks = s.dueMarks ∧
    s.lookAtData.records = s.records ∧ s.lookAtData.portA = s.portA ∧ s.lookAtData.portB = s.portB ∧
    s.lookAtData.portC = s.portC ∧ s.lookAtData.pins = s.pins ∧ s.lookAtData.pending = s.pending := by
  unfold State.lookAtData; split_ifs <;> simp

@[simp] theorem State.enterRecovery_frame (a b : Bool) :
    (s.enterRecovery a b).resetting = s.resetting ∧ (s.enterRecovery a b).cause = s.cause ∧
    (s.enterRecovery a b).adsel = s.adsel ∧ (s.enterRecovery a b).time = s.time ∧
    (s.enterRecovery a b).settings = s.settings ∧ (s.enterRecovery a b).queue = s.queue ∧
    (s.enterRecovery a b).leases = s.leases ∧ (s.enterRecovery a b).mirror = s.mirror ∧
    (s.enterRecovery a b).dueMarks = s.dueMarks ∧ (s.enterRecovery a b).records = s.records ∧
    (s.enterRecovery a b).portA = s.portA ∧ (s.enterRecovery a b).portB = s.portB ∧
    (s.enterRecovery a b).portC = s.portC ∧ (s.enterRecovery a b).pins = s.pins ∧
    (s.enterRecovery a b).pending = s.pending := by
  unfold State.enterRecovery; dsimp only; split_ifs <;> simp

@[simp] theorem State.enterStuck_frame :
    s.enterStuck.resetting = s.resetting ∧ s.enterStuck.cause = s.cause ∧ s.enterStuck.adsel = s.adsel ∧
    s.enterStuck.time = s.time ∧ s.enterStuck.settings = s.settings ∧ s.enterStuck.queue = s.queue ∧
    s.enterStuck.monitor = s.monitor ∧ s.enterStuck.leases = s.leases ∧ s.enterStuck.mirror = s.mirror ∧
    s.enterStuck.dueMarks = s.dueMarks ∧ s.enterStuck.portA = s.portA ∧ s.enterStuck.portB = s.portB ∧
    s.enterStuck.portC = s.portC ∧ s.enterStuck.pins = s.pins ∧ s.enterStuck.pending = s.pending := by
  unfold State.enterStuck; dsimp only; split_ifs <;> simp

end Sys2Proof.Machine
end

