-- ==== Sys2Proof/Laws/Commands.lean ====
section
/-! SUPPORT. What `command` and `event` can answer, the agreement of two states in a part, and the shared operations as
functions on parts. -/

namespace Sys2Proof.Machine

variable (s t u : State)

/-! ### Agreement in a part -/

@[simp] theorem Part.same_refl (p : Part) : p.same s s := by
  cases p <;> simp [Part.same]

theorem Part.same_trans (p : Part) (h1 : p.same s t) (h2 : p.same t u) : p.same s u := by
  cases p <;> simp_all [Part.same]

@[simp] theorem Part.same_settle (p : Part) : p.same s s.settle := by
  cases p <;> simp [Part.same, State.recOf]
  rename_i q; cases q <;> simp

theorem State.putReady_same (p : Part) (o : Direct) (f : List Byte) (h : p ≠ portPart o) : p.same s (s.putReady o f) := by
  cases o <;> cases p <;> simp_all [Part.same, portPart, State.recOf] <;>
    first | (rename_i q; cases q <;> simp_all [State.putReady]) | simp_all [State.putReady]

theorem State.awaitTicket_same (p : Part) (o : Direct) (n : Nat) (h : p ≠ portPart o) :
    p.same s (s.awaitTicket o n) := by
  cases o <;> cases p <;> simp_all [Part.same, portPart, State.recOf] <;>
    first | (rename_i q; cases q <;> simp_all [State.awaitTicket]) | simp_all [State.awaitTicket]

theorem State.reply_same (p : Part) (o : Direct) (r : Reply) (h : p ≠ portPart o) : p.same s (s.reply o r) := by
  cases r
  · exact s.putReady_same p o _ h
  · exact s.awaitTicket_same p o _ h

theorem State.replaceSlot_same (p : Part) (o : Direct) (i : Option Instr) (hq : p ≠ .queue) (h : p ≠ portPart o) :
    p.same s (s.replaceSlot o i) := by
  cases o <;> cases p <;> simp_all [Part.same, portPart, State.recOf] <;>
    first | (rename_i q; cases q <;> simp_all [State.replaceSlot]) | simp_all [State.replaceSlot]

theorem State.frameUnshown_same (p : Part) (o : Direct) (h : p ≠ portPart o) : p.same s (s.frameUnshown o) := by
  cases o <;> cases p <;> simp_all [Part.same, portPart, State.recOf] <;>
    first | (rename_i q; cases q <;> simp_all [State.frameUnshown]) | simp_all [State.frameUnshown]

theorem State.withFrame_same (p : Part) (o : Direct) (i : Instr) (hq : p ≠ .queue) (h : p ≠ portPart o) :
    p.same s (s.withFrame o i) :=
  Part.same_trans _ _ _ p (s.frameUnshown_same p o h) ((s.frameUnshown o).replaceSlot_same p o _ hq h)

/-! ### What a command answers -/

/-- A command that its port has handed over is carried out. -/
theorem command_hands (o : Direct) (i : Instr) (act : State → State × Reply) (h : s.hands o i = true) :
    command o i act s = .next (s.carryOut o act) := by
  simp [command, h]

/-- A command whose frame is not shown is carried out behind its frame. -/
theorem command_unshown (o : Direct) (i : Instr) (act : State → State × Reply) (hn : s.hands o i = false)
    (h : s.takesUnshown o = true) : command o i act s = .next ((s.withFrame o i).carryOut o act) := by
  simp [command, h, hn]

/-- A command always answers a next state, in one of three ways. -/
theorem command_cases (o : Direct) (i : Instr) (act : State → State × Reply) :
    (s.hands o i = true ∧ command o i act s = .next (s.carryOut o act)) ∨
      (s.takesUnshown o = true ∧ command o i act s = .next ((s.withFrame o i).carryOut o act)) ∨
        command o i act s = .next s := by
  unfold command
  split_ifs with h1 h2
  · exact .inl ⟨h1, rfl⟩
  · exact .inr (.inl ⟨h2, rfl⟩)
  · exact .inr (.inr rfl)

/-- An event that the part's state admits has its effect. -/
theorem event_next (e : State) (possible : Bool) (hr : s.resetting = none) (h : possible = true) :
    event possible e s = .next e.settle := by
  simp [event, hr, h]

/-- An event always answers a next state, in one of two ways. -/
theorem event_cases (possible : Bool) (e : State) :
    (s.resetting = none ∧ possible = true ∧ event possible e s = .next e.settle) ∨ event possible e s = .next s := by
  unfold event
  split_ifs with h
  · simp only [Bool.and_eq_true, Option.isNone_iff_eq_none] at h
    exact .inl ⟨h.1, h.2, rfl⟩
  · exact .inr rfl

/-- What a command's act leaves alone, the command leaves alone, but for its port and for the wait its frame ends. -/
theorem command_same (p : Part) (o : Direct) (i : Instr) (act : State → State × Reply) (hq : p ≠ .queue)
    (hp : p ≠ portPart o) (ha : ∀ u, p.same u (act u).1) (h : command o i act s = .next t) : p.same s t := by
  have hc : ∀ u, p.same u (u.carryOut o act) := fun u =>
    Part.same_trans _ _ _ p (Part.same_trans _ _ _ p (ha u) ((act u).1.reply_same p o _ hp)) (Part.same_settle _ p)
  rcases command_cases s o i act with ⟨_, h1⟩ | ⟨_, h1⟩ | h1 <;> rw [h1] at h <;> cases h
  · exact hc s
  · exact Part.same_trans _ _ _ p (s.withFrame_same p o i hq hp) (hc _)
  · exact Part.same_refl s p

/-- What an event's effect leaves alone, the event leaves alone. -/
theorem event_same (p : Part) (possible : Bool) (e : State) (he : p.same s e) (h : event possible e s = .next t) :
    p.same s t := by
  rcases event_cases s possible e with ⟨_, _, h1⟩ | h1 <;> rw [h1] at h <;> cases h
  · exact Part.same_trans _ _ _ p he (Part.same_settle _ p)
  · exact Part.same_refl s p

/-- The outputs follow the state after a command, if they did before. -/
theorem command_outputs (o : Direct) (i : Instr) (act : State → State × Reply) (hs : s.outputsRight = true)
    (h : command o i act s = .next t) : t.outputsRight = true := by
  rcases command_cases s o i act with ⟨_, h1⟩ | ⟨_, h1⟩ | h1 <;> rw [h1] at h <;> cases h
  · simp [State.outputsRight, State.carryOut]
  · simp [State.outputsRight, State.carryOut]
  · exact hs

/-- The outputs follow the state after an event, if they did before. -/
theorem event_outputs (possible : Bool) (e : State) (hs : s.outputsRight = true)
    (h : event possible e s = .next t) : t.outputsRight = true := by
  rcases event_cases s possible e with ⟨_, _, h1⟩ | h1 <;> rw [h1] at h <;> cases h
  · simp [State.outputsRight]
  · exact hs

end Sys2Proof.Machine
end

