-- ==== Sys2Proof/Laws/Parts.lean ====
section
/-! SUPPORT. The parts that the shared operations on the queue, the mirror and the records reach: for every other part
the state before and after agree. -/

namespace Sys2Proof.Machine

variable (s : State)

theorem State.setQueue_same (p : Part) (q : Queue) (h : p ≠ .queue) : p.same s (s.setQueue q) := by
  cases p <;> simp_all [Part.same, State.recOf]
  rename_i q; cases q <;> simp_all

theorem State.setWaiting_same (p : Part) (o : Direct) (l : List Ticket) (h : p ≠ .queue) :
    p.same s (s.setWaiting o l) := s.setQueue_same p _ h

theorem State.dequeue_same (p : Part) (o : Origin) (n : Nat) (h : p ≠ .queue) : p.same s (s.dequeue o n) :=
  s.setQueue_same p _ h

theorem State.setRec_same (p : Part) (o : Direct) (r : Records) (h : p ≠ .records o) : p.same s (s.setRec o r) := by
  cases p <;> simp_all [Part.same]
  · rename_i q; rw [State.recOf_setRec_of_ne _ _ _ _ h]
  · rename_i q; cases q <;> simp_all

theorem State.setEntry_same (p : Part) (i : Nat) (e : Option Entry) (h : p ≠ .mirror) : p.same s (s.setEntry i e) := by
  cases p <;> simp_all [Part.same, State.recOf]
  rename_i q; cases q <;> simp_all

theorem State.setLeases_same (p : Part) (l : List Lease) (h : p ≠ .leases) : p.same s (s.setLeases l) := by
  cases p <;> simp_all [Part.same, State.recOf]
  rename_i q; cases q <;> simp_all

theorem State.setTw_same (p : Part) (port : TwPort) (x : Tw) (h : p ≠ .port port) : p.same s (s.setTw port x) := by
  cases p <;> cases port <;> simp_all [Part.same, State.recOf] <;> (rename_i q; cases q <;> simp_all)

theorem State.setPortC_same (p : Part) (x : PortC) (h : p ≠ .portC) : p.same s (s.setPortC x) := by
  cases p <;> simp_all [Part.same, State.recOf]
  rename_i q; cases q <;> simp_all

theorem State.notifyEach_same (p : Part) (m : PerDirect Bool) (k : NoticeKind) (b : Subject) (v : List Byte)
    (h : p.isRecords = false) : p.same s (s.notifyEach m k b v) := by
  cases p <;> simp_all [Part.same, Part.isRecords]
  rename_i q; cases q <;> simp_all

theorem State.retryPosts_same (p : Part) (h : p ≠ .queue) (h2 : p ≠ .mirror) (h3 : p ≠ .dueMarks) :
    p.same s s.retryPosts := by
  cases p <;> simp_all [Part.same, State.recOf]
  rename_i q; cases q <;> simp_all

theorem State.posted_same (p : Part) (i : Nat) (e : Entry) (h : p ≠ .queue) (h2 : p ≠ .mirror) (h3 : p ≠ .dueMarks) :
    p.same s (s.posted i e) := by
  cases p <;> simp_all [Part.same, State.recOf]
  rename_i q; cases q <;> simp_all

theorem State.takeDue_same (p : Part) (i : Nat) (b : Bool) (h2 : p ≠ .mirror) (h3 : p ≠ .dueMarks) :
    p.same s (s.takeDue i b) := by
  cases p <;> simp_all [Part.same, State.recOf]
  rename_i q; cases q <;> simp_all

theorem State.deliverCopy_same (p : Part) (o : Direct) (x : Record) (h : p ≠ portPart o) :
    p.same s (s.deliverCopy o x) := by
  unfold State.deliverCopy
  split
  · split_ifs
    · exact s.putReady_same p o _ h
    · simp
  · simp

/-- The outcome of a direct ticket reaches the queue, its origin's records and port, and, through the departure, the
mirror. -/
theorem State.handOver_same (p : Part) (o : Direct) (t : Ticket) (r : Result) (h : p ≠ .queue) (h2 : p ≠ .mirror)
    (h3 : p ≠ .dueMarks) (h4 : p ≠ .records o) (h5 : p ≠ portPart o) : p.same s (s.handOver o t r) := by
  unfold State.handOver
  have h0 : p.same s (if t.waited then s.deliverCopy o (t.record r s.time) else s) := by
    split_ifs
    · exact s.deliverCopy_same p o _ h5
    · simp
  revert h0
  generalize (if t.waited then s.deliverCopy o (t.record r s.time) else s) = s1
  intro h0
  dsimp only
  split_ifs
  · exact Part.same_trans _ _ _ p h0
      (Part.same_trans _ _ _ p (State.setRec_same _ p _ _ h4) (State.retryPosts_same _ p h h2 h3))
  · exact Part.same_trans _ _ _ p h0 (State.setWaiting_same _ p _ _ h)

theorem State.pollResult_same (p : Part) (i : Nat) (r : Result) (v : List Byte) (h2 : p ≠ .mirror)
    (h : p.isRecords = false) : p.same s (s.pollResult i r v) := by
  cases p <;> simp_all [Part.same, Part.isRecords]
  rename_i q; cases q <;> simp_all

/-- The end of a ticket of any origin. -/
theorem State.finish_same (p : Part) (q : Origin) (t : Ticket) (r : Result) (h : p.endingReaches = false) :
    p.same s (s.finish q t r) := by
  cases p <;> simp_all [Part.same, Part.endingReaches]

/-- The end of a direct origin's ticket. -/
theorem State.finish_direct_same (p : Part) (o : Direct) (q : Origin) (t : Ticket) (r : Result)
    (ho : originDirect q = some o) (h : p ≠ .queue) (h2 : p ≠ .mirror) (h3 : p ≠ .dueMarks) (h4 : p ≠ .records o)
    (h5 : p ≠ portPart o) : p.same s (s.finish q t r) := by
  unfold State.finish
  split_ifs
  · exact s.retryPosts_same p h h2 h3
  · rw [ho]
    exact s.handOver_same p o t r h h2 h3 h4 h5

end Sys2Proof.Machine
end

