-- ==== Sys2Proof/Laws/Effects.lean ====
section
/-! SUPPORT. What the shared operations do to the part they reach: the answer at a port, the notices at an origin, the
retried posts of the poll engine, the list operations of the queue. -/

namespace Sys2Proof.Machine

variable (s t u : State)

/-! ### Answers -/

/-- An answer that reaches its port is READY there. -/
theorem State.answered_putReady (o : Direct) (f : List Byte) : (s.putReady o f).slotOf o = .ready f := by
  cases o <;> simp [State.slotOf, State.putReady, Tw.makeReady, PortC.makeReady] <;> split <;> rfl

/-- The owner's answer to a command that is carried out. -/
theorem State.answered_carryOut (o : Direct) (act : State → State × Reply) (status : Status) (payload : List Byte)
    (h : (act s).2 = .answer status payload) : (s.carryOut o act).answered o status payload := by
  have h1 : s.carryOut o act = (((act s).1).putReady o (responseFrame status payload)).settle := by
    simp [State.carryOut, State.reply, h]
  rw [h1]
  have h2 := ((act s).1).answered_putReady o (responseFrame status payload)
  cases o <;> simpa [State.answered, State.slotOf] using h2

/-- A command whose act changes nothing changes nothing but its port. -/
theorem State.carryOut_quiet (o : Direct) (act : State → State × Reply) (h : (act s).1 = s) (p : Part)
    (hp : p ≠ portPart o) : p.same s (s.carryOut o act) := by
  unfold State.carryOut
  rw [h]
  exact Part.same_trans _ _ _ p (s.reply_same p o _ hp) (Part.same_settle _ p)

/-! ### Notices -/

/-- The notices of an origin after a notice to it, or to another. -/
theorem State.recOf_notify (o q : Direct) (k : NoticeKind) (b : Subject) (v : List Byte) :
    (s.notify o k b v).recOf q = if q = o then (s.recOf q).arrive k b v s.time else s.recOf q := by
  unfold State.notify
  split_ifs with h
  · subst h; simp
  · exact s.recOf_setRec_of_ne o q _ h

theorem State.recOf_notifyIf (m : Bool) (o q : Direct) (k : NoticeKind) (b : Subject) (v : List Byte) :
    (s.notifyIf m o k b v).recOf q =
      if q = o ∧ m = true then (s.recOf q).arrive k b v s.time else s.recOf q := by
  cases m <;> simp [State.notifyIf, State.recOf_notify]

/-- Each origin that is meant takes the notice, and no other. -/
theorem State.recOf_notifyEach (m : PerDirect Bool) (q : Direct) (k : NoticeKind) (b : Subject) (v : List Byte) :
    (s.notifyEach m k b v).recOf q =
      if m.get q = true then (s.recOf q).arrive k b v s.time else s.recOf q := by
  obtain ⟨x, y, z⟩ := m
  cases q <;> cases x <;> cases y <;> cases z <;> simp [State.notifyEach, State.recOf_notifyIf, PerDirect.get]

/-! ### Posts (R120 to R122) -/

theorem State.sameEntries_refl : s.sameEntries s := fun _ => rfl

theorem State.sameEntries_trans (h1 : t.sameEntries s) (h2 : u.sameEntries t) : u.sameEntries s := fun j =>
  (h2 j).trans (h1 j)

/-- An admitted post of an entry as it stands sets its poll-posted mark and nothing else of the mirror. -/
theorem State.posted_sameEntries (i : Nat) (e : Entry) (h : s.entry i = some e) : (s.posted i e).sameEntries s := by
  intro j
  have hm : (s.posted i e).entry j = ((s.enqueue (s.newTicket .p i e.request)).setEntry i
      (some { e with posted := true })).entry j := by
    simp [State.posted, State.clearDue, State.entry]
  have he : ∀ j, (s.enqueue (s.newTicket .p i e.request)).entry j = s.entry j := by intro j; simp [State.entry]
  have hl : (s.enqueue (s.newTicket .p i e.request)).mirror = s.mirror := by simp
  rw [hm]
  rcases eq_or_ne j i with rfl | hj
  · rw [State.entry_setEntry _ _ _ (by rw [hl]; exact s.entry_lt j e h), h]
    rfl
  · rw [State.entry_setEntry_of_ne _ _ _ _ hj, he]

/-- The queue after an admitted post: P's order is longer by the poll ticket. -/
theorem State.posted_queue (i : Nat) (e : Entry) :
    (s.posted i e).queue =
      { s.queue with
        queued := { s.queue.queued with p := s.queue.queued.p ++ [s.newTicket .p i e.request] } } := by
  simp [State.posted, State.enqueue, State.newTicket, State.setQueued, State.queuedOf, PerOrigin.get, PerOrigin.set]

/-- Posts make P's order longer, set poll-posted marks, and change nothing else of the queue or the mirror. -/
theorem State.postEach_effect (l : List DueMark) : ∀ s : State,
    (∃ posts, (State.postEach l s).queue =
      { s.queue with queued := { s.queue.queued with p := s.queue.queued.p ++ posts } }) ∧
    (State.postEach l s).sameEntries s := by
  induction l with
  | nil => exact fun s => ⟨⟨[], by simp [State.postEach]⟩, s.sameEntries_refl⟩
  | cons m ms ih =>
    intro s
    unfold State.postEach
    split
    · exact ih s
    · rename_i e he
      unfold State.post
      cases hn : s.noPlace .p with
      | some status => exact ⟨⟨[], by simp⟩, s.sameEntries_refl⟩
      | none =>
        obtain ⟨⟨posts, hq⟩, hs⟩ := ih (s.posted m.index e)
        refine ⟨⟨[s.newTicket .p m.index e.request] ++ posts, ?_⟩, ?_⟩
        · dsimp only
          rw [hq, State.posted_queue]
          simp
        · exact State.sameEntries_trans _ _ _ (s.posted_sameEntries m.index e he) hs

/-- A retry trigger makes P's order longer by the posts it admits, sets poll-posted marks, and changes nothing else of
the queue or the mirror. -/
theorem State.retryPosts_effect :
    (∃ posts, s.retryPosts.queue =
      { s.queue with queued := { s.queue.queued with p := s.queue.queued.p ++ posts } }) ∧
    s.retryPosts.sameEntries s :=
  State.postEach_effect s.dueMarks s

/-! ### The order of the posts (R122) -/

/-- The ticket a post offers is the poll ticket of R120. -/
theorem State.newTicket_pollTicket (i : Nat) (e : Entry) : s.newTicket .p i e.request = s.pollTicket i e := rfl

/-- P has a place exactly where neither refusal of R121 applies. -/
theorem State.noPlace_eq_none :
    s.noPlace .p = none ↔ s.queue.total < 24 ∧ s.queue.counted .p < s.settings.quota .p := by
  have h24 : Config.maxTickets = 24 := rfl
  unfold State.noPlace
  rw [h24]
  split_ifs <;> simp <;> omega

/-- P's order longer by some tickets: so many more in the queue and counted. -/
theorem Queue.total_append (q : Queue) (l : List Ticket) :
    ({ q with queued := { q.queued with p := q.queued.p ++ l } } : Queue).total = q.total + l.length ∧
      ({ q with queued := { q.queued with p := q.queued.p ++ l } } : Queue).counted .p = q.counted .p + l.length := by
  constructor
  · simp only [Queue.total, Queue.activeCount, List.length_append]; omega
  · simp only [Queue.counted, Queue.activeCounted, Queue.waitingCount, PerOrigin.get, originDirect, List.length_append]
    omega

/-- A due mark of the list is of a defined entry with no poll posted. -/
def postable (s : State) (m : DueMark) : Prop := ∃ e, s.entry m.index = some e ∧ e.posted = false

/-- The due marks of a state that are well formed. -/
theorem State.dueMarksWf_iff : s.dueMarksWf = true ↔
    marksApart s.dueMarks = true ∧ ∀ m ∈ s.dueMarks, postable s m := by
  simp only [State.dueMarksWf, Bool.and_eq_true, List.all_eq_true, Option.any_eq_true, postable, Bool.not_eq_true']

/-- Entries after an admitted post. -/
theorem State.entry_posted (i : Nat) (e : Entry) (h : s.entry i = some e) (j : Nat) :
    (s.posted i e).entry j = if j = i then some { e with posted := true } else s.entry j := by
  have hm : (s.posted i e).entry j = ((s.enqueue (s.newTicket .p i e.request)).setEntry i
      (some { e with posted := true })).entry j := by
    simp [State.posted, State.clearDue, State.entry]
  have he : (s.enqueue (s.newTicket .p i e.request)).entry j = s.entry j := by simp [State.entry]
  have hl : (s.enqueue (s.newTicket .p i e.request)).mirror = s.mirror := by simp
  rw [hm]
  split_ifs with hj
  · subst hj; exact State.entry_setEntry _ _ _ (by rw [hl]; exact s.entry_lt j e h)
  · rw [State.entry_setEntry_of_ne _ _ _ _ hj, he]

/-- The waiting entries of well formed marks post in order up to the first refusal. -/
theorem State.postEach_retried (l : List DueMark) : ∀ s : State, s.dueMarks = l → marksApart l = true →
    (∀ m ∈ l, postable s m) →
    ∃ posts left, l = posts ++ left ∧ (State.postEach l s).dueMarks = left ∧
      (State.postEach l s).queue =
        { s.queue with queued := { s.queue.queued with p := s.queue.queued.p ++ s.pollTickets posts } } ∧
      (∀ i, (State.postEach l s).entry i =
        (s.entry i).map fun e => { e with posted := e.posted || posts.any (·.index = i) }) ∧
      (posts ≠ [] → s.queue.total + posts.length ≤ 24 ∧ s.queue.counted .p + posts.length ≤ s.settings.quota .p) ∧
      (left ≠ [] → 24 ≤ s.queue.total + posts.length ∨ s.settings.quota .p ≤ s.queue.counted .p + posts.length) := by
  induction l with
  | nil =>
    intro s hs _ _
    exact ⟨[], [], rfl, by simpa [State.postEach] using hs, by simp [State.postEach, State.pollTickets],
      by simp [State.postEach], by simp, by simp⟩
  | cons m ms ih =>
    intro s hs ha hp
    obtain ⟨e, he, hpe⟩ := hp m (by simp)
    simp only [marksApart, Bool.and_eq_true, List.all_eq_true, decide_eq_true_eq] at ha
    cases hn : s.noPlace .p with
    | some status =>
      have hx : State.postEach (m :: ms) s = s := by simp [State.postEach, he, State.post, hn]
      have hnp : ¬(s.queue.total < 24 ∧ s.queue.counted .p < s.settings.quota .p) := by
        rw [← s.noPlace_eq_none, hn]; simp
      rw [hx]
      exact ⟨[], m :: ms, rfl, hs, by simp [State.pollTickets], by simp, by simp, fun _ => by simp only [List.length_nil]; omega⟩
    | none =>
      have hx : State.postEach (m :: ms) s = State.postEach ms (s.posted m.index e) := by
        simp [State.postEach, he, State.post, hn]
      have hpl := s.noPlace_eq_none.1 hn
      have hd : (s.posted m.index e).dueMarks = ms := by
        have : (s.posted m.index e).dueMarks = s.dueMarks.filter (·.index ≠ m.index) := by
          simp [State.posted, State.clearDue]
        rw [this, hs, List.filter_cons_of_neg (by simp), List.filter_eq_self]
        intro n hnm; simpa using ha.1 n hnm
      have hent := s.entry_posted m.index e he
      have hne : ∀ n ∈ ms, (s.posted m.index e).entry n.index = s.entry n.index := fun n hnm => by
        rw [hent, if_neg (ha.1 n hnm)]
      obtain ⟨posts, left, h1, h2, h3, h4, h5, h6⟩ := ih (s.posted m.index e) hd ha.2 (fun n hnm => by
        obtain ⟨e', he', hpe'⟩ := hp n (by simp [hnm]); exact ⟨e', by rw [hne n hnm, he'], hpe'⟩)
      have hqp := s.posted_queue m.index e
      obtain ⟨ht, hc⟩ := Queue.total_append s.queue [s.newTicket .p m.index e.request]
      rw [hqp] at h3 h5 h6
      rw [ht, hc] at h5 h6
      have hset : (s.posted m.index e).settings = s.settings := by simp
      have htime : (s.posted m.index e).pollTicket = s.pollTicket := by funext i e'; simp [State.pollTicket]
      rw [hset] at h5 h6
      refine ⟨m :: posts, left, by rw [h1]; rfl, by rw [hx]; exact h2, ?_, ?_, fun _ => ?_, fun h => ?_⟩
      · rw [hx, h3]
        have hf : (s.posted m.index e).pollTickets posts = s.pollTickets posts :=
          List.filterMap_congr fun n hnp => by rw [hne n (by rw [h1]; simp [hnp]), htime]
        rw [hf]
        simp [State.pollTickets, he, State.newTicket_pollTicket, List.append_assoc]
      · intro i
        rw [hx, h4, hent]
        by_cases hi : i = m.index
        · subst hi; simp [he]
        · have : ¬m.index = i := fun h => hi h.symm
          simp [hi, this]
      · by_cases hps : posts = []
        · subst hps; simp only [List.length_cons, List.length_nil]; omega
        · have := h5 hps; simp only [List.length_cons, List.length_nil] at this ⊢; omega
      · have := h6 h; simp only [List.length_cons, List.length_nil] at this ⊢; omega

/-- A retry trigger is what R122 says of it. -/
theorem State.retryPosts_retried : s.retriedTo s.retryPosts := by
  intro hwf
  obtain ⟨ha, hp⟩ := s.dueMarksWf_iff.1 hwf
  obtain ⟨posts, left, h1, h2, h3, h4, h5, h6⟩ := State.postEach_retried s.dueMarks s rfl ha hp
  have hlen : (s.pollTickets posts).length = posts.length := by
    have : ∀ l : List DueMark, (∀ m ∈ l, postable s m) →
        (s.pollTickets l).length = l.length := by
      intro l
      induction l with
      | nil => simp [State.pollTickets]
      | cons m ms ih =>
        intro h
        obtain ⟨e, he, -⟩ := h m (by simp)
        simp only [State.pollTickets] at ih ⊢
        simp [he, ih fun n hn => h n (by simp [hn])]
    exact this posts fun m hm => hp m (by rw [h1]; simp [hm])
  obtain ⟨ht, hc⟩ := Queue.total_append s.queue (s.pollTickets posts)
  have hset : s.retryPosts.settings = s.settings := by simp
  have hq : s.retryPosts.queue = _ := h3
  refine ⟨posts, left, h1, h2, ?_, h4, ?_, ?_⟩
  · simp only [State.queuedOf, hq, PerOrigin.get]
  · rw [hset, hq, ht, hc, hlen]; exact h5
  · rw [hset, hq, ht, hc, hlen]; exact h6

/-- A retry trigger is read from the due marks, the mirror, the time and P's order alone. -/
theorem State.retriedTo_congr (h1 : t.dueMarks = s.dueMarks) (h2 : t.mirror = s.mirror) (h3 : t.time = s.time)
    (h4 : t.queuedOf .p = s.queuedOf .p) (h : s.retriedTo u) : t.retriedTo u := by
  have he : ∀ i, t.entry i = s.entry i := fun i => by simp [State.entry, h2]
  have hp : t.pollTicket = s.pollTicket := by funext i e; simp [State.pollTicket, h3]
  unfold State.retriedTo State.dueMarksWf at *
  simp only [State.pollTickets, h1, he, h4, hp] at h ⊢
  exact h

/-! ### The queue's lists -/

/-- The first ticket of a number is taken out, and no other. -/
theorem without_split (n : Nat) (pre post : List Ticket) (k : Ticket) (hk : k.number = n)
    (hp : ∀ j ∈ pre, j.number ≠ n) : without n (pre ++ k :: post) = pre ++ post := by
  induction pre with
  | nil => simp [without, hk]
  | cons j js ih =>
    have hj : j.number ≠ n := hp j (by simp)
    simp [without, hj, ih (fun x hx => hp x (by simp [hx]))]

/-- The first ticket of a number is the one found. -/
theorem State.findQueued_split (o : Origin) (n : Nat) (pre post : List Ticket) (k : Ticket)
    (h : s.queuedOf o = pre ++ k :: post) (hk : k.number = n) (hp : ∀ j ∈ pre, j.number ≠ n) :
    s.findQueued o n = some k := by
  unfold State.findQueued
  rw [h, List.find?_append]
  have : pre.find? (fun t => decide (t.number = n)) = none := by
    rw [List.find?_eq_none]; intro x hx; simpa using hp x hx
  rw [this]
  simp [hk]

/-- No ticket of that number is found where none is queued. -/
theorem State.findQueued_none (o : Origin) (n : Nat) (h : ∀ j ∈ s.queuedOf o, j.number ≠ n) :
    s.findQueued o n = none := by
  unfold State.findQueued
  rw [List.find?_eq_none]
  intro x hx
  simpa using h x hx

/-! ### Endings -/

theorem State.sameEntries_of_mirror (h : t.mirror = s.mirror) : t.sameEntries s := fun j => by
  simp [State.entry, h]

/-- A departure is a retry trigger: the records and the ports keep what they hold. -/
theorem State.departed_effect :
    (∃ posts, s.departed.queue =
      { s.queue with queued := { s.queue.queued with p := s.queue.queued.p ++ posts } }) ∧
    s.departed.sameEntries s ∧ s.departed.records = s.records :=
  ⟨s.retryPosts_effect.1, s.retryPosts_effect.2, by simp⟩

/-- The outcome of a direct ticket that has left its place: in the ring or DONE_WAITING (R10), and at no other origin;
the queue's other orders, its ACTIVE ticket and the scheduler are as they were. -/
theorem State.handOver_effect (o : Direct) (k : Ticket) (r : Result) :
    outcomeTaken s (s.handOver o k r) o k r ∧
    (∀ q, q ≠ o → (s.handOver o k r).recOf q = s.recOf q ∧ (s.handOver o k r).waitingOf q = s.waitingOf q) ∧
    (s.handOver o k r).sameEntries s ∧ (s.handOver o k r).queue.active = s.queue.active ∧
    (s.handOver o k r).queue.credit = s.queue.credit ∧ (s.handOver o k r).queue.current = s.queue.current ∧
    (s.handOver o k r).queue.counter = s.queue.counter ∧
    ∀ q, (s.handOver o k r).queuedOf (directOrigin q) = s.queuedOf (directOrigin q) := by
  unfold State.handOver
  obtain ⟨s1, h1⟩ : ∃ s1, s1 = (if k.waited then s.deliverCopy o (k.record r s.time) else s) := ⟨_, rfl⟩
  have hs : s1.records = s.records ∧ s1.queue = s.queue ∧ s1.mirror = s.mirror := by
    rw [h1]; split_ifs <;> simp
  rw [← h1]
  have hrec : ∀ q, s1.recOf q = s.recOf q := by intro q; simp [State.recOf, hs]
  have h8 : Config.maxRing = 8 := rfl
  simp only [hrec, outcomeTaken, h8]
  have hdm : s1.dueMarks = s.dueMarks ∧ s1.time = s.time := by rw [h1]; split_ifs <;> simp
  split_ifs with hlen
  · obtain ⟨⟨posts, hq⟩, hse, hr⟩ := (s1.appendRecord o (k.record r s.time)).departed_effect
    have ha : ∀ q, (s1.appendRecord o (k.record r s.time)).departed.recOf q =
        (s1.appendRecord o (k.record r s.time)).recOf q := by intro q; simp [State.recOf]
    have hq1 : (s1.appendRecord o (k.record r s.time)).queue = s.queue := by simp [hs]
    rw [hq1] at hq
    refine ⟨⟨?_, ?_, ?_⟩, fun q hqo => ⟨?_, ?_⟩, ?_, ?_, ?_, ?_, ?_, fun q => ?_⟩
    · rw [ha]; simp [State.appendRecord, hrec]
    · simp only [State.waitingOf, hq]
    · exact State.retriedTo_congr _ _ _ (by simp [hdm]) (by simp [hs]) (by simp [hdm])
        (by simp only [State.queuedOf, hq1]) (State.retryPosts_retried _)
    · rw [ha]; simp [State.appendRecord, State.recOf_setRec_of_ne _ _ _ _ hqo, hrec]
    · simp only [State.waitingOf, hq]
    · exact State.sameEntries_trans _ _ _ (State.sameEntries_of_mirror _ _ (by simp [hs])) hse
    · rw [hq]
    · rw [hq]
    · rw [hq]
    · rw [hq]
    · simp only [State.queuedOf, hq]; cases q <;> rfl
  · have hw : ∀ l, (s1.setWaiting o l).recOf o = s.recOf o := by intro l; simp [State.recOf, hs]
    refine ⟨⟨hw _, ?_, ?_, ?_⟩, fun q hqo => ⟨?_, ?_⟩, State.sameEntries_of_mirror _ _ (by simp [hs]), ?_, ?_, ?_, ?_, fun q => ?_⟩
    · rw [State.waitingOf_setWaiting]; simp [State.waitingOf, hs, Ticket.ended]
    · simp [hdm]
    · simp [State.setWaiting, hs, State.queuedOf]
    · simp [State.recOf, hs]
    · simp [State.waitingOf, State.setWaiting, hs, PerDirect.get_set_of_ne _ _ _ _ hqo]
    · simp [State.setWaiting, hs]
    · simp [State.setWaiting, hs]
    · simp [State.setWaiting, hs]
    · simp [State.setWaiting, hs]
    · simp [State.setWaiting, hs, State.queuedOf]

/-- A notice to each origin meant depends on nothing but the records and the time. -/
theorem State.notifyEach_records (m : PerDirect Bool) (k : NoticeKind) (b : Subject) (v : List Byte)
    (h1 : t.records = s.records) (h2 : t.time = s.time) :
    (t.notifyEach m k b v).records = (s.notifyEach m k b v).records := by
  obtain ⟨x, y, z⟩ := m
  cases x <;> cases y <;> cases z <;>
    simp [State.notifyEach, State.notifyIf, State.notify, State.setRec, State.recOf, h1, h2]

/-- What a poll result makes of the mirror and of the records depends on them and on the time alone. -/
theorem State.pollResult_agrees (i : Nat) (r : Result) (v : List Byte) (h1 : t.mirror = s.mirror)
    (h2 : t.records = s.records) (h3 : t.time = s.time) :
    (t.pollResult i r v).mirror = (s.pollResult i r v).mirror ∧
      (t.pollResult i r v).records = (s.pollResult i r v).records := by
  have he : t.entry i = s.entry i := by simp [State.entry, h1]
  have ha : ∀ n, t.after n = s.after n := by intro n; simp [State.after, h3]
  have hset : ∀ e, (t.setEntry i e).mirror = (s.setEntry i e).mirror := by intro e; simp [State.setEntry, h1]
  unfold State.pollResult
  rw [he]
  cases s.entry i with
  | none => exact ⟨h1, h2⟩
  | some e =>
    have hn : ∀ (c : Prop) [Decidable c] (x y : State) (m : PerDirect Bool) (k : NoticeKind) (b : Subject) (w : List Byte),
        (x.mirror = y.mirror ∧ x.records = y.records ∧ x.time = y.time) →
        ((if c then x.notifyEach m k b w else x).mirror = (if c then y.notifyEach m k b w else y).mirror ∧
          (if c then x.notifyEach m k b w else x).records = (if c then y.notifyEach m k b w else y).records ∧
          (if c then x.notifyEach m k b w else x).time = (if c then y.notifyEach m k b w else y).time) := by
      intro c _ x y m k b w ⟨a1, a2, a3⟩
      split_ifs
      · exact ⟨by simp [a1], State.notifyEach_records y x m k b w a2 a3, by simp [a3]⟩
      · exact ⟨a1, a2, a3⟩
    have h0 : ∀ e, (t.setEntry i e).mirror = (s.setEntry i e).mirror ∧
        (t.setEntry i e).records = (s.setEntry i e).records ∧ (t.setEntry i e).time = (s.setEntry i e).time :=
      fun e => ⟨hset e, by simp [h2], by simp [h3]⟩
    cases r <;> simp only [State.pollDone, State.pollFailed, State.pollNeutral, ha]
    case done =>
      have h := hn (e.rangeOf v ≠ e.range) _ _ e.subs .limitCrossed (.entry i) [byteOf (e.rangeOf v).code]
        (hn (e.status = .fault) _ _ e.subs .entryRecovered (.entry i) []
          (hn (e.changedBy v = true) _ _ e.subs .valueChanged (.entry i) v
            (h0 (some (e.afterDone v (s.after (e.interval * 10)))))))
      exact ⟨h.1, h.2.1⟩
    case noDevice | dataNack | stretchTimeout | transactionTimeout =>
      have h := hn (e.entersFault = true) _ _ e.subs .entryFault (.entry i) []
        (h0 (some (e.afterFail (s.after e.waitAfterFail))))
      exact ⟨h.1, h.2.1⟩
    all_goals exact ⟨(h0 _).1, (h0 _).2.1⟩

/-- A poll result touches neither the queue nor the time. -/
theorem State.pollResult_queue (i : Nat) (r : Result) (v : List Byte) :
    (s.pollResult i r v).queue = s.queue := by simp

/-- The end of a ticket that has been taken out of its place, whoever it belonged to (R10, R12, R20). -/
theorem State.finish_effect (k : Ticket) (r : Result) (h1 : s.mirror = t.mirror) (h2 : s.records = t.records)
    (h3 : s.time = t.time) (h4 : s.queue.waiting = t.queue.waiting) (h5 : s.dueMarks = t.dueMarks)
    (h6 : s.queuedOf .p = t.queuedOf .p) :
    ticketEnded t (s.finish k.origin k r) k r ∧ (s.finish k.origin k r).queue.active = s.queue.active ∧
      (s.finish k.origin k r).queue.credit = s.queue.credit ∧
      (s.finish k.origin k r).queue.current = s.queue.current := by
  have hse : ∀ x : State, x.sameEntries s → x.sameEntries t := fun x h =>
    State.sameEntries_trans _ _ _ (State.sameEntries_of_mirror t s h1) h
  have hrec : ∀ q, s.recOf q = t.recOf q := fun q => by simp [State.recOf, h2]
  have hwait : ∀ q, s.waitingOf q = t.waitingOf q := fun q => by simp [State.waitingOf, h4]
  unfold ticketEnded State.finish
  by_cases ho : k.orphaned = true
  · rw [if_pos ho]
    obtain ⟨⟨posts, hq⟩, hs, hr⟩ := s.departed_effect
    refine ⟨⟨fun _ => ⟨hr.trans h2, by rw [hq]; exact h4, hse _ hs,
      State.retriedTo_congr _ _ _ h5.symm h1.symm h3.symm h6.symm s.retryPosts_retried⟩, fun o h => ?_, fun h => ?_⟩, ?_, ?_, ?_⟩
    · simp [ho] at h
    · simp [ho] at h
    · rw [hq]
    · rw [hq]
    · rw [hq]
  · rw [if_neg ho]
    refine ⟨⟨fun h => absurd h ho, fun o _ h => ?_, fun _ h => ?_⟩, ?_⟩
    · have hd : originDirect k.origin = some o := by rw [h]; cases o <;> rfl
      rw [hd]
      obtain ⟨e1, e2, e3, -⟩ := s.handOver_effect o k r
      refine ⟨?_, fun q hq => ⟨(e2 q hq).1.trans (hrec q), (e2 q hq).2.trans (hwait q)⟩, hse _ e3⟩
      have hret : ∀ x : State, s.retriedTo x → t.retriedTo x := fun x =>
        State.retriedTo_congr _ _ _ h5.symm h1.symm h3.symm h6.symm
      unfold outcomeTaken at e1 ⊢
      rw [hrec, hwait, h3, h5, h6] at e1
      split_ifs at e1 ⊢
      · exact ⟨e1.1, e1.2.1, hret _ e1.2.2⟩
      · exact e1
    · rw [h]
      obtain ⟨⟨posts, hq⟩, hs, hr⟩ := (s.pollResult k.number r k.rdata).departed_effect
      have hp := State.pollResult_agrees t s k.number r k.rdata h1 h2 h3
      refine ⟨hr.trans hp.2, ?_, State.sameEntries_trans _ _ _ (State.sameEntries_of_mirror _ _ hp.1) hs,
        State.retriedTo_congr _ _ _ (by simp [h5]) hp.1.symm (by simp [h3])
          (by simp only [State.queuedOf, State.pollResult_queue] at h6 ⊢; exact h6.symm)
          (State.retryPosts_retried _)⟩
      change (s.pollResult k.number r k.rdata).departed.queue.waiting = _
      rw [hq, State.pollResult_queue]; exact h4
    · cases hd : originDirect k.origin with
      | some o =>
        obtain ⟨-, -, -, e4, e5, e6, -⟩ := s.handOver_effect o k r
        exact ⟨e4, e5, e6⟩
      | none =>
        obtain ⟨⟨posts, hq⟩, -⟩ := (s.pollResult k.number r k.rdata).departed_effect
        dsimp only
        rw [hq, State.pollResult_queue]
        exact ⟨rfl, rfl, rfl⟩

/-! ### Check points (R48) -/

/-- A byte has a bit that is 1 at a place or after it exactly where its bits from there on are not all 0. -/
theorem shifted_ne_zero_iff (b : Byte) (n : Nat) :
    b <<< n ≠ 0#8 ↔ ∃ j < 8, n ≤ j ∧ b.getLsbD (7 - j) = true := by
  constructor
  · intro h
    by_contra hc
    push Not at hc
    apply h
    apply BitVec.eq_of_getLsbD_eq
    intro i hi
    rw [BitVec.getLsbD_shiftLeft, BitVec.getLsbD_zero]
    by_cases hn : i < n
    · simp [hn]
    · have := hc (7 - (i - n)) (by omega) (by omega)
      rw [show 7 - (7 - (i - n)) = i - n by omega] at this
      simp [this]
  · rintro ⟨j, hj, hn, hb⟩ h
    have h1 : (b <<< n).getLsbD (7 - j + n) = true := by
      rw [BitVec.getLsbD_shiftLeft, show 7 - j + n - n = 7 - j by omega, hb]
      simp; omega
    rw [h] at h1
    simp at h1

/-- A due mark goes behind all others where none of its change of the broker time has a higher index (R122): one that a
definition sets always. -/
theorem insertMark_eq_append (m : DueMark) (l : List DueMark)
    (h : ∀ n ∈ l, m.fresh = true → n.fresh = true → n.index ≤ m.index) : insertMark m l = l ++ [m] := by
  induction l with
  | nil => rfl
  | cons n ns ih =>
    have hn := h n (by simp)
    have hns := ih fun x hx => h x (by simp [hx])
    unfold insertMark
    rw [hns, if_neg]
    · simp
    · simp only [Bool.and_eq_true, decide_eq_true_eq]
      intro hc
      have := hn hc.1.1 hc.1.2
      omega

/-- The check points of a byte the engine sends are its bits sent as 1 (R48). -/
theorem Engine.sendsOne_iff (e : Engine) (t : Ticket) :
    e.sendsOne t = true ↔ ∃ j < 8, e.bit.getD 0 ≤ j ∧ (t.sentByte e.state).getLsbD (7 - j) = true := by
  rw [Engine.sendsOne, decide_eq_true_eq]
  exact shifted_ne_zero_iff _ _

/-- The check that a rise of D-SCL makes, point by point (R48). -/
theorem Engine.checksAtRise_iff (e : Engine) (t : Ticket) : e.checksAtRise t = true ↔ e.atCheckPoint t := by
  unfold Engine.checksAtRise Engine.atCheckPoint
  cases hs : e.state <;> cases hb : e.bit <;> simp

/-- Where a rise of D-SCL is not taken as a plain one, ARBITRATION_LOST has a check point. -/
theorem Engine.checkPoint_of_checksAtRise (e : Engine) (t : Ticket) (h : e.checksAtRise t = true) :
    ∃ cut, e.checkPoint t cut = true := by
  rw [Engine.checksAtRise_iff] at h
  rcases h with ⟨hs, b, hb, hbit, hone⟩ | ⟨hs, hbit⟩ | ⟨hs, hbit, hdrive⟩
  · have h1 : e.sendsOne t = true := (e.sendsOne_iff t).2 ⟨b, hb, by simp [hbit], hone⟩
    refine ⟨.nothing, ?_⟩
    simp at hs
    rcases hs with hs | hs | hs <;> simp [Engine.checkPoint, hs, h1]
  · exact ⟨.nothing, by simp [Engine.checkPoint, hs, hbit]⟩
  · exact ⟨.readByte 0#8, by simp [Engine.checkPoint, Engine.givesNack, hs, hbit, hdrive]⟩

end Sys2Proof.Machine
end

