-- ==== Sys2Proof/Laws/PerInstr.lean ====
section
/-! SUPPORT. Statements made of every command, constructor by constructor. The family `Frames`: a well-formed command of
a controller has parameters that a request frame can carry. -/

namespace Sys2Proof.Laws.Frames

/-- The parameters of a well-formed command of a controller are at most 36 bytes (R134); an event has no frame. -/
def Statement (i : Instr) : Prop :=
  i.wellFormed = true → ∀ o code params, i.request = some (o, code, params) → params.length ≤ 36

/-- An event has no request frame. -/
theorem of_event (i : Instr) (h : i.request = none) : Statement i := fun _ o code params hr => by
  rw [h] at hr; exact absurd hr (by simp)

theorem submit (o : Direct) (kindFlags addr limit readLen : Byte) (data : List Byte) :
    Statement (.submit o kindFlags addr limit readLen data) :=
  fun h o' code params hr => by
    simp only [Instr.request, Option.some.injEq, Prod.mk.injEq] at hr
    obtain ⟨-, -, rfl⟩ := hr
    simp only [Instr.wellFormed, dataFits, decide_eq_true_eq] at h
    simp only [List.length_cons]
    omega

theorem transact (o : Direct) (kindFlags addr limit readLen : Byte) (data : List Byte) :
    Statement (.transact o kindFlags addr limit readLen data) :=
  fun h o' code params hr => by
    simp only [Instr.request, Option.some.injEq, Prod.mk.injEq] at hr
    obtain ⟨-, -, rfl⟩ := hr
    simp only [Instr.wellFormed, dataFits, decide_eq_true_eq] at h
    simp only [List.length_cons]
    omega

theorem cancel (o : Direct) (number : Byte) : Statement (.cancel o number) := fun _ o' code params hr => by
  simp only [Instr.request, Option.some.injEq, Prod.mk.injEq] at hr
  obtain ⟨-, -, rfl⟩ := hr
  simp

theorem ticketQuery (o : Direct) (number : Byte) : Statement (.ticketQuery o number) := fun _ o' code params hr => by
  simp only [Instr.request, Option.some.injEq, Prod.mk.injEq] at hr
  obtain ⟨-, -, rfl⟩ := hr
  simp

theorem collect (o : Direct) (ack max : Byte) : Statement (.collect o ack max) := fun _ o' code params hr => by
  simp only [Instr.request, Option.some.injEq, Prod.mk.injEq] at hr
  obtain ⟨-, -, rfl⟩ := hr
  simp

theorem notices (o : Direct) (ack lostSeen max : Byte) : Statement (.notices o ack lostSeen max) :=
  fun _ o' code params hr => by
    simp only [Instr.request, Option.some.injEq, Prod.mk.injEq] at hr
    obtain ⟨-, -, rfl⟩ := hr
    simp

theorem lease (o : Direct) (addr : Byte) (duration : BitVec 16) (flags : Byte) :
    Statement (.lease o addr duration flags) :=
  fun _ o' code params hr => by
    simp only [Instr.request, Option.some.injEq, Prod.mk.injEq] at hr
    obtain ⟨-, -, rfl⟩ := hr
    simp [bytes16]

theorem release (o : Direct) (addr : Byte) : Statement (.release o addr) := fun _ o' code params hr => by
  simp only [Instr.request, Option.some.injEq, Prod.mk.injEq] at hr
  obtain ⟨-, -, rfl⟩ := hr
  simp

theorem mirrorDefine (o : Direct) (index flags addr reg width : Byte) (interval : BitVec 16) (low high : Field) :
    Statement (.mirrorDefine o index flags addr reg width interval low high) :=
  fun _ o' code params hr => by
    simp only [Instr.request, Option.some.injEq, Prod.mk.injEq] at hr
    obtain ⟨-, -, rfl⟩ := hr
    simp [bytes16, bytes32]

theorem mirrorDrop (o : Direct) (index : Byte) : Statement (.mirrorDrop o index) := fun _ o' code params hr => by
  simp only [Instr.request, Option.some.injEq, Prod.mk.injEq] at hr
  obtain ⟨-, -, rfl⟩ := hr
  simp

theorem mirrorRead (o : Direct) (indices : List Byte) : Statement (.mirrorRead o indices) :=
  fun h o' code params hr => by
    simp only [Instr.request, Option.some.injEq, Prod.mk.injEq] at hr
    obtain ⟨-, -, rfl⟩ := hr
    simp only [Instr.wellFormed, indicesFit, Bool.and_eq_true, decide_eq_true_eq] at h
    omega

theorem subscribe (o : Direct) (index : Byte) : Statement (.subscribe o index) := fun _ o' code params hr => by
  simp only [Instr.request, Option.some.injEq, Prod.mk.injEq] at hr
  obtain ⟨-, -, rfl⟩ := hr
  simp

theorem unsubscribe (o : Direct) (index : Byte) : Statement (.unsubscribe o index) := fun _ o' code params hr => by
  simp only [Instr.request, Option.some.injEq, Prod.mk.injEq] at hr
  obtain ⟨-, -, rfl⟩ := hr
  simp

theorem refresh (o : Direct) (index : Byte) : Statement (.refresh o index) := fun _ o' code params hr => by
  simp only [Instr.request, Option.some.injEq, Prod.mk.injEq] at hr
  obtain ⟨-, -, rfl⟩ := hr
  simp

theorem settingRead (o : Direct) (number : Byte) : Statement (.settingRead o number) := fun _ o' code params hr => by
  simp only [Instr.request, Option.some.injEq, Prod.mk.injEq] at hr
  obtain ⟨-, -, rfl⟩ := hr
  simp

theorem settingWrite (o : Direct) (number : Byte) (value : Field) : Statement (.settingWrite o number value) :=
  fun _ o' code params hr => by
    simp only [Instr.request, Option.some.injEq, Prod.mk.injEq] at hr
    obtain ⟨-, -, rfl⟩ := hr
    simp [bytes32]

theorem status (o : Direct) : Statement (.status o) := fun _ o' code params hr => by
  simp only [Instr.request, Option.some.injEq, Prod.mk.injEq] at hr
  obtain ⟨-, -, rfl⟩ := hr
  simp

theorem originReset (o : Direct) : Statement (.originReset o) := fun _ o' code params hr => by
  simp only [Instr.request, Option.some.injEq, Prod.mk.injEq] at hr
  obtain ⟨-, -, rfl⟩ := hr
  simp

theorem busRecover (o : Direct) : Statement (.busRecover o) := fun _ o' code params hr => by
  simp only [Instr.request, Option.some.injEq, Prod.mk.injEq] at hr
  obtain ⟨-, -, rfl⟩ := hr
  simp

theorem upstreamAddressByte (port : TwPort) (byte : Byte) : Statement (.upstreamAddressByte port byte) :=
  of_event _ rfl

theorem writeTransferEnd (port : TwPort) (bytes : List Byte) (cond : Cond) :
    Statement (.writeTransferEnd port bytes cond) :=
  of_event _ rfl

theorem writeTransferAbort (port : TwPort) (cond : Cond) : Statement (.writeTransferAbort port cond) := of_event _ rfl

theorem responseReadComplete (port : TwPort) (ack : Bool) : Statement (.responseReadComplete port ack) :=
  of_event _ rfl

theorem readEndedEarly (port : TwPort) (how : ReadEnd) : Statement (.readEndedEarly port how) := of_event _ rfl

theorem noRequest (port : TwPort) (ack : Bool) : Statement (.noRequest port ack) := of_event _ rfl

theorem holdLimitExpiry (port : TwPort) : Statement (.holdLimitExpiry port) := of_event _ rfl

theorem blockStart : Statement .blockStart := of_event _ rfl

theorem blockEnd (bytes : List Byte) (partialBits : Nat) : Statement (.blockEnd bytes partialBits) := of_event _ rfl

theorem portCHoldExpiry : Statement .portCHoldExpiry := of_event _ rfl

theorem ticketStart : Statement .ticketStart := of_event _ rfl

theorem addressByteEnd (ack : Bool) : Statement (.addressByteEnd ack) := of_event _ rfl

theorem writeByteEnd (ack : Bool) : Statement (.writeByteEnd ack) := of_event _ rfl

theorem restartEnd (ack : Bool) : Statement (.restartEnd ack) := of_event _ rfl

theorem readByteEnd (byte : Byte) : Statement (.readByteEnd byte) := of_event _ rfl

theorem stopComplete : Statement .stopComplete := of_event _ rfl

theorem arbitrationLost (cut : Sampled) : Statement (.arbitrationLost cut) := of_event _ rfl

theorem misplacedCondition (cond : Cond) (cut : Sampled) : Statement (.misplacedCondition cond cut) := of_event _ rfl

theorem stretchTimeout (cut : Sampled) (scl sda : Bool) : Statement (.stretchTimeout cut scl sda) := of_event _ rfl

theorem transactionTimeout (cut : Sampled) (scl sda : Bool) : Statement (.transactionTimeout cut scl sda) :=
  of_event _ rfl

theorem recoveryClockRise (sda : Bool) : Statement (.recoveryClockRise sda) := of_event _ rfl

theorem recoveryPulse (sda : Bool) : Statement (.recoveryPulse sda) := of_event _ rfl

theorem stuckLimitExpiry : Statement .stuckLimitExpiry := of_event _ rfl

theorem recoveryStopComplete : Statement .recoveryStopComplete := of_event _ rfl

theorem recoveryStopFail : Statement .recoveryStopFail := of_event _ rfl

theorem retryCountExpiry : Statement .retryCountExpiry := of_event _ rfl

theorem foreignStart : Statement .foreignStart := of_event _ rfl

theorem stopSeen : Statement .stopSeen := of_event _ rfl

theorem busFreeTimePassed : Statement .busFreeTimePassed := of_event _ rfl

theorem idleDetect : Statement .idleDetect := of_event _ rfl

theorem lineFallInFree (line : BusLine) : Statement (.lineFallInFree line) := of_event _ rfl

theorem heldDataExpiry : Statement .heldDataExpiry := of_event _ rfl

theorem deadlineExpiry (origin : Origin) (number : Nat) : Statement (.deadlineExpiry origin number) := of_event _ rfl

theorem leaseExpiry (addr : Byte) : Statement (.leaseExpiry addr) := of_event _ rfl

theorem pollDue (index : Nat) : Statement (.pollDue index) := of_event _ rfl

theorem staleness (index : Nat) : Statement (.staleness index) := of_event _ rfl

theorem brokerTimeTick : Statement .brokerTimeTick := of_event _ rfl

theorem brokerResetEntry (cause : ResetCause) : Statement (.brokerResetEntry cause) := of_event _ rfl

theorem brokerResetRelease (adsel1 adsel0 scl sda : Bool) : Statement (.brokerResetRelease adsel1 adsel0 scl sda) :=
  of_event _ rfl

theorem dBusLineChange (line : BusLine) (level : Bool) : Statement (.dBusLineChange line level) := of_event _ rfl

theorem upstreamStop (port : TwPort) : Statement (.upstreamStop port) := of_event _ rfl

end Sys2Proof.Laws.Frames
end

