-- ==== Sys2Proof/Tests/Slice0.lean ====
section
/-! SUPPORT. Tests: the well-formedness checks, the check byte and the frames, and for every obligation with hypotheses
a state and operands that meet them. -/

namespace Sys2Proof.Tests

open Sys2Proof.Machine

set_option maxRecDepth 40000

/-! ### Well-formedness refuses an ill-formed command for each check -/

theorem test_wf_submit_data : (Instr.submit .a 1#8 0x20#8 0#8 0#8 (List.replicate 33 0#8)).wellFormed = false := by
  decide

theorem test_wf_transact_data :
    (Instr.transact .a 1#8 0x20#8 0#8 0#8 (List.replicate 33 0#8)).wellFormed = false := by decide

theorem test_wf_read_none : (Instr.mirrorRead .a []).wellFormed = false := by decide

theorem test_wf_read_nine : (Instr.mirrorRead .a (List.replicate 9 0#8)).wellFormed = false := by decide

theorem test_wf_block_bits : (Instr.blockEnd [] 8).wellFormed = false := by decide

theorem test_wf_number_zero : (Instr.deadlineExpiry .a 0).wellFormed = false := by decide

theorem test_wf_number_high : (Instr.deadlineExpiry .c 256).wellFormed = false := by decide

theorem test_wf_number_entry : (Instr.deadlineExpiry .p 32).wellFormed = false := by decide

theorem test_wf_due_entry : (Instr.pollDue 32).wellFormed = false := by decide

theorem test_wf_stale_entry : (Instr.staleness 32).wellFormed = false := by decide

/-- Every check passes a term at the end of its range. -/
theorem test_wf_passes :
    (Instr.submit .a 1#8 0x20#8 0#8 0#8 (List.replicate 32 0#8)).wellFormed = true ∧
      (Instr.mirrorRead .a (List.replicate 8 0#8)).wellFormed = true ∧ (Instr.blockEnd [] 7).wellFormed = true ∧
      (Instr.deadlineExpiry .c 255).wellFormed = true ∧ (Instr.deadlineExpiry .p 31).wellFormed = true ∧
      (Instr.pollDue 31).wellFormed = true := by decide

/-! ### The check byte (R136) and frames -/

/-- One byte of 1 in its most significant place, from a register of 0: the polynomial comes eight steps down. -/
theorem test_crc_one : crcByte 0#8 0x01#8 = 0x1D#8 := by decide

/-- The digits 1 to 9, the usual check input of this polynomial, with no final inversion. -/
theorem test_crc_digits :
    checkByte [0x31#8, 0x32#8, 0x33#8, 0x34#8, 0x35#8, 0x36#8, 0x37#8, 0x38#8, 0x39#8] = 0xB4#8 := by decide

/-- A STATUS frame passed through the register, check byte included, leaves 0. -/
theorem test_crc_closes : checkByte (closeFrame [0x52#8, 0x00#8]) = 0#8 := by decide

/-- The bytes of Table 11.1, written out, are the commands they stand for; one for each family of commands. -/
theorem test_frames_decode :
    commandOf .a 0x10#8 [0x83#8, 0x48#8, 5#8, 2#8, 0x0A#8] = .command (.submit .a 0x83#8 0x48#8 5#8 2#8 [0x0A#8]) ∧
      commandOf .b 0x20#8 [1#8, 8#8] = .command (.collect .b 1#8 8#8) ∧
      commandOf .c 0x30#8 [0x48#8, 0x2C#8, 0x01#8, 1#8] = .command (.lease .c 0x48#8 300#16 1#8) ∧
      commandOf .a 0x40#8 [4#8, 9#8, 0x48#8, 0#8, 2#8, 0x64#8, 0#8, 0#8, 0#8, 0#8, 0#8, 0#8, 1#8, 0#8, 0#8] =
        .command (.mirrorDefine .a 4#8 9#8 0x48#8 0#8 2#8 100#16 0#32 0x100#32) ∧
      commandOf .a 0x51#8 [8#8, 7#8, 7#8, 7#8, 3#8] = .command (.settingWrite .a 8#8 0x03070707#32) := by decide

/-- The decoder's refusals at the ends of its ranges: L of 37, a cut frame, a filler byte from Port A and none from
Port C. -/
theorem test_frames_refused :
    decodeFrame .a [0x52#8, 37#8, 0#8] false false true = .refused .badLength ∧
      decodeFrame .c (requestFrame 0x52#8 []) true false false = .refused .badLength ∧
      decodeFrame .a (requestFrame 0x52#8 [] ++ [0#8]) false false true = .refused .badLength ∧
      decodeFrame .c (requestFrame 0x52#8 [] ++ [0#8]) false false false = .command (.status .c) ∧
      decodeFrame .a (requestFrame 0x14#8 [1#8]) false false true = .refused .unknownCommand := by decide

/-! ### Small states -/

/-- A ticket of an origin with that number: a WRITE of one byte to 0x20. -/
def ticket (o : Origin) (n : Nat) : Ticket := State.reset.newTicket o n ⟨.write, 0x20#8, [1#8], 0, false, 100⟩

/-- The part once a port has handed over a command. -/
def handed (o : Direct) (i : Instr) (s : State) : State := s.withFrame o i

/-- The part with these tickets of origin A queued. -/
def queuedA (l : List Ticket) : State := State.reset.setQueued .a l

/-- The part with a ticket on the bus, the engine in that state. -/
def onBus (st : EngineState) (k : Ticket) : State :=
  ((State.reset.setActive (some k)).setEngine { Engine.reset with state := st, bit := some 3 }).monitorTo .busyOwn

/-- An entry of origin A, every 100 ms, on a device at 0x48. -/
def entry (status : EntryStatus) : Entry :=
  { status := status, owner := .a, addr := 0x48#8, reg := 0#8, width := 1, msbFirst := false, interval := 10
    low := some 2, high := some 5, range := .inRange, value := some [3#8], age := 0, fails := 0, due := 0#16
    dueReached := false, posted := false, subs := ⟨true, true, false⟩ }

/-- The part with that entry at index 31. -/
def withEntry (e : Entry) : State := State.reset.setEntry 31 (some e)

/-- The part with a port in that target state and that slot. -/
def atPort (t : Target) (slot : Slot) : State := State.reset.setTw .b { Tw.reset with target := t, slot := slot }

/-- The part with the engine in a recovery attempt. -/
def recovering (p : RecoveryPhase) (pulses : Nat) : State :=
  State.reset.setEngine
    { Engine.reset with state := .recovery, phase := some p, pulses := pulses, wait := some ⟨10, 11⟩ }

/-! ### Witnesses: steps, frames, decoding -/

theorem witness_StepRunsFrontCommand : State.reset.pending = [] := rfl

theorem witness_EveryCommandGoesOn :
    (State.reset.enterReset .external).resetting ≠ none ∧ (∀ c, Instr.status .a ≠ .brokerResetEntry c) ∧
      ∀ a b c d, Instr.status .a ≠ .brokerResetRelease a b c d :=
  ⟨by decide, fun _ => Instr.noConfusion, fun _ _ _ _ => Instr.noConfusion⟩

theorem witness_FramePartByPart :
    ∃ t, exec .brokerTimeTick State.reset = .next t ∧ mayChange .brokerTimeTick .settings = false :=
  ⟨_, rfl, rfl⟩

theorem witness_UnshownFrameStandsForFrame :
    (Instr.status .a).request.map Prod.fst = some .a ∧ State.reset.takesUnshown .a = true ∧
      (Instr.status .c).request.map Prod.fst = some .c ∧ State.reset.takesUnshown .c = true := by decide

theorem witness_EveryRequestIsAnswered :
    (Instr.status .a).request.map Prod.fst = some .a ∧
      (handed .a (.status .a) State.reset).hands .a (.status .a) = true ∧
      (Instr.transact .c 1#8 0x20#8 0#8 0#8 [1#8]).request.map Prod.fst = some .c ∧
      (handed .c (.transact .c 1#8 0x20#8 0#8 0#8 [1#8]) State.reset).hands .c
        (.transact .c 1#8 0x20#8 0#8 0#8 [1#8]) = true := by decide

theorem witness_RequestFramesDecode :
    (Instr.submit .a 1#8 0x20#8 0#8 0#8 (List.replicate 32 0#8)).wellFormed = true ∧
      (Instr.submit .a 1#8 0x20#8 0#8 0#8 (List.replicate 32 0#8)).request =
        some (.a, 0x10#8, 1#8 :: 0x20#8 :: 0#8 :: 0#8 :: List.replicate 32 0#8) := by decide

/-- Each clause at the ends of its range: 2 bytes, L of 37, one byte short, one byte of filler; a check byte one off;
the codes next to the table's; the parameter lengths next to the right ones. -/
theorem witness_DecoderChecksInOrder :
    [0x52#8, 0#8].length < 3 ∧ 36 < ([0x52#8, 37#8, 0#8].getD 1 0#8).toNat ∧
      [0x52#8, 1#8, 0#8].length < ([0x52#8, 1#8, 0#8].getD 1 0#8).toNat + 3 ∧
      ([0x52#8, 0#8, 0#8, 0#8].getD 1 0#8).toNat + 3 < [0x52#8, 0#8, 0#8, 0#8].length ∧
      (0#8).toNat = ([] : List Byte).length ∧ checkByte [0x52#8, 0#8] + 1#8 ≠ checkByte [0x52#8, 0#8] ∧
      (0x14#8).toNat ∉ [0x10, 0x11, 0x12, 0x13, 0x20, 0x21, 0x30, 0x31, 0x40, 0x41, 0x42, 0x43, 0x44, 0x45, 0x50, 0x51,
        0x52, 0x53, 0x60] ∧
      [0#8, 0#8, 0#8].length < 4 ∧ ([] : List Byte).length < 1 ∧ 8 < (List.replicate 9 0#8).length ∧
      (List.replicate 9 0#8).length ≤ 36 := by decide

/-! ### Witnesses: tickets -/

/-- A SUBMIT that is refused by no check: at the ends of the address range, with one place left in the quota, and with a read in
HOLD. -/
theorem witness_SubmitOrTransactAdmitsTicket :
    (handed .a (.submit .a 0x83#8 0x77#8 0#8 32#8 [1#8]) State.reset).hands .a (.submit .a 0x83#8 0x77#8 0#8 32#8 [1#8])
        = true ∧
      (handed .a (.submit .a 0x83#8 0x77#8 0#8 32#8 [1#8]) State.reset).refusal .a 0x83#8 0x77#8 32#8 [1#8] = none ∧
      (handed .c (.transact .c 0#8 8#8 255#8 0#8 []) State.reset).hands .c (.transact .c 0#8 8#8 255#8 0#8 []) = true ∧
      (handed .c (.transact .c 0#8 8#8 255#8 0#8 []) State.reset).refusal .c 0#8 8#8 0#8 [] = none ∧
      (State.reset.setTw .a { Tw.reset with
        target := .hold, slot := .waiting, since := some 2, handed := some (.transact .a 0#8 8#8 255#8 0#8 []) }).hands
        .a (.transact .a 0#8 8#8 255#8 0#8 []) = true ∧
      (queuedA (List.replicate 6 (ticket .a 1))).refusal .a 0#8 8#8 0#8 [] = none := by decide

/-- With the counter at 255 and numbers 255 and 1 in use the number given is 2. -/
theorem witness_ticketNumber :
    ({ queuedA [ticket .a 255, ticket .a 1] with queue :=
        { (queuedA [ticket .a 255, ticket .a 1]).queue with counter := ⟨255, 1, 1⟩ } } : State).ticketNumber .a = 2 ∧
      (queuedA [ticket .a 255, ticket .a 1]).numbers .a = [255, 1] ∧ (255 - 1 + 2) % 255 + 1 = 2 ∧
      (queuedA [ticket .a 255, ticket .a 1]).queue.total ≤ 24 ∧
      ((queuedA [ticket .a 255, ticket .a 1]).recOf .a).ring.length ≤ 8 := by decide

/-- Every refusal of R5, at the ends of its range. -/
theorem witness_RefusedRequestMakesNoTicket :
    State.reset.refusal .a 4#8 8#8 0#8 [] = some .badParam ∧ State.reset.refusal .a 8#8 8#8 0#8 [] = some .badParam ∧
      State.reset.refusal .a 0#8 7#8 0#8 [] = some .badAddress ∧
      State.reset.refusal .a 0#8 0x78#8 0#8 [] = some .badAddress ∧
      State.reset.refusal .a 2#8 8#8 33#8 [] = some .badParam ∧
      (queuedA (List.replicate 24 (ticket .a 1))).refusal .a 0#8 8#8 0#8 [] = some .refusedFull ∧
      (queuedA (List.replicate 7 (ticket .a 1))).refusal .a 0#8 8#8 0#8 [] = some .refusedQuota ∧
      (handed .a (.submit .a 4#8 8#8 0#8 0#8 []) State.reset).hands .a (.submit .a 4#8 8#8 0#8 0#8 []) = true ∧
      (handed .b (.transact .b 4#8 8#8 0#8 0#8 []) State.reset).hands .b (.transact .b 4#8 8#8 0#8 0#8 []) = true := by
  decide

/-- A number QUEUED, ACTIVE, DONE_WAITING, in the ring, and none of these. -/
theorem witness_CancelByPlace :
    (handed .a (.cancel .a 2#8) (queuedA [ticket .a 1, ticket .a 2])).hands .a (.cancel .a 2#8) = true ∧
      (queuedA [ticket .a 1, ticket .a 2]).queuedOf (directOrigin .a) = [ticket .a 1] ++ ticket .a 2 :: [] ∧
      (ticket .a 2).number = (2#8 : Byte).toNat ∧ (∀ j ∈ [ticket .a 1], j.number ≠ (2#8 : Byte).toNat) ∧
      (ticket .a 2).orphaned = false ∧ (2#8 : Byte) ≠ 0#8 ∧
      (∀ j ∈ State.reset.queuedOf (directOrigin .a), j.number ≠ (2#8 : Byte).toNat) ∧
      (onBus .write (ticket .a 2)).queue.active = some (ticket .a 2) ∧ (ticket .a 2).origin = directOrigin .a ∧
      (∃ k ∈ (State.reset.setWaiting .a [ticket .a 2]).waitingOf .a, k.number = (2#8 : Byte).toNat) := by decide

theorem witness_TicketQueryReportsPlace :
    (handed .a (.ticketQuery .a 2#8) (queuedA [ticket .a 1, ticket .a 2])).hands .a (.ticketQuery .a 2#8) = true ∧
      (queuedA [ticket .a 1, ticket .a 2]).queuedOf (directOrigin .a) = [ticket .a 1] ++ ticket .a 2 :: [] ∧
      (∀ j ∈ [ticket .a 1], j.number ≠ (2#8 : Byte).toNat) ∧
      (State.reset.appendRecord .a ((ticket .a 2).record .done 5#16)).recOf .a =
        { State.reset.recOf .a with ring := [] ++ (ticket .a 2).record .done 5#16 :: [] } ∧
      ((ticket .a 2).record .done 5#16).number = (2#8 : Byte).toNat := by decide

/-! ### Witnesses: records, notices, leases -/

theorem witness_CollectAcknowledgesAndDelivers :
    (handed .b (.collect .b 0#8 8#8) State.reset).hands .b (.collect .b 0#8 8#8) = true ∧
      (0#8 : Byte).toNat ≤ (State.reset.recOf .b).d ∧ (8#8 : Byte).toNat ≤ 8 ∧
      (handed .b (.collect .b 1#8 8#8) State.reset).hands .b (.collect .b 1#8 8#8) = true ∧
      (State.reset.recOf .b).d < (1#8 : Byte).toNat ∧ 8 < (9#8 : Byte).toNat ∧
      ((State.reset.setWaiting .b [ticket .b 2]).waitingOf .b).take (1#8 : Byte).toNat ≠ [] ∧
      (State.reset.waitingOf .b).take (1#8 : Byte).toNat = [] := by decide

theorem witness_NoticesAcknowledgesAndDelivers :
    (handed .b (.notices .b 0#8 1#8 16#8) State.reset).hands .b (.notices .b 0#8 1#8 16#8) = true ∧
      (0#8 : Byte).toNat ≤ (State.reset.recOf .b).e ∧ (16#8 : Byte).toNat ≤ 16 ∧
      (State.reset.recOf .b).e < (1#8 : Byte).toNat ∧ 16 < (17#8 : Byte).toNat := by decide

/-- The events at 100 and 200 of Table 4.5: the second VALUE_CHANGED merges into the first and keeps its place. -/
theorem test_notices_table_4_5 :
    (((Records.empty.arrive .valueChanged (.entry 4) [0x20#8, 1#8] 100#16).arrive .limitCrossed (.entry 4) [2#8]
      100#16).arrive .valueChanged (.entry 4) [0x24#8, 1#8] 200#16).notices =
      [⟨.valueChanged, .entry 4, 2, [0x24#8, 1#8], 200#16⟩, ⟨.limitCrossed, .entry 4, 1, [2#8], 100#16⟩] := by decide

/-- An undelivered notice of the kind and subject; none and a place; none and a full list. -/
theorem witness_NoticeMergedAppendedOrLost :
    (Records.reset .external).notices.drop (Records.reset .external).e = [] ++ restartNotice .external :: [] ∧
      (restartNotice .external).kind = .brokerRestarted ∧ (restartNotice .external).subject = .none ∧
      (∀ m ∈ Records.empty.notices.drop Records.empty.e, ¬(m.kind = .busStuck ∧ m.subject = .none)) ∧
      Records.empty.notices.length < 16 ∧
      (∀ m ∈ (List.replicate 16 (restartNotice .external)).drop 16, ¬(m.kind = .busStuck ∧ m.subject = .none)) ∧
      16 ≤ (List.replicate 16 (restartNotice .external)).length := by decide

/-- A LEASE by each of its cases, at the ends of its ranges. -/
theorem witness_LeaseGrantedRenewedOrRefused :
    (handed .a (.lease .a 8#8 500#16 1#8) State.reset).hands .a (.lease .a 8#8 500#16 1#8) = true ∧
      1 < (2#8 : Byte).toNat ∧ (1#8 : Byte).toNat ≤ 1 ∧ (0#16 : Time).toNat < 1 ∧ 500 < (501#16 : Time).toNat ∧
      1 ≤ (1#16 : Time).toNat ∧ (7#8 : Byte).toNat < 0x08 ∧ 0x77 < (0x78#8 : Byte).toNat ∧
      (State.reset.setLeases [⟨8#8, .b, 5#16, false, true⟩]).leases = [] ++ ⟨8#8, .b, 5#16, false, true⟩ :: [] ∧
      (∀ m ∈ State.reset.leases, m.addr ≠ (8#8 : Byte)) ∧ State.reset.leases.length < 8 ∧
      8 ≤ (List.replicate 8 (⟨9#8, .b, 5#16, false, true⟩ : Lease)).length := by decide

theorem witness_ReleaseRemovesHoldersLease :
    (handed .b (.release .b 8#8) (State.reset.setLeases [⟨8#8, .b, 5#16, false, true⟩])).hands .b (.release .b 8#8) = true ∧
      (State.reset.setLeases [⟨8#8, .b, 5#16, false, true⟩]).leases = [] ++ ⟨8#8, .b, 5#16, false, true⟩ :: [] ∧
      (∀ m ∈ State.reset.leases, m.addr ≠ (8#8 : Byte)) ∧ (7#8 : Byte).toNat < 0x08 ∧ (0x77#8 : Byte).toNat ≤ 0x77 := by
  decide

/-! ### Witnesses: the mirror -/

theorem witness_MirrorDefineSetsEntry :
    (handed .a (.mirrorDefine .a 0xFF#8 1#8 0x48#8 0#8 4#8 6000#16 0#32 0#32) State.reset).hands .a
        (.mirrorDefine .a 0xFF#8 1#8 0x48#8 0#8 4#8 6000#16 0#32 0#32) = true ∧
      defineRefusal 0xFF#8 1#8 0x48#8 4#8 6000#16 0#32 0#32 = none ∧
      defineRefusal 31#8 12#8 8#8 1#8 1#16 255#32 255#32 = none ∧ State.reset.mirror.length = 32 ∧
      State.reset.mirror[0]? = some none ∧ State.reset.mirror[31]? = some none ∧ State.reset.dueMarks = [] ∧
      State.reset.queue.total < 24 ∧ State.reset.queue.counted .p < State.reset.settings.quota .p ∧
      (State.reset.setQueued .p (List.replicate 3 (ticket .p 1))).settings.quota .p ≤
        (State.reset.setQueued .p (List.replicate 3 (ticket .p 1))).queue.counted .p := by decide

theorem witness_MirrorRedefineKeepsSubscribers :
    (handed .a (.mirrorDefine .a 31#8 0#8 0x48#8 0#8 4#8 6000#16 0#32 0#32) (withEntry (entry .fault))).hands .a
        (.mirrorDefine .a 31#8 0#8 0x48#8 0#8 4#8 6000#16 0#32 0#32) = true ∧
      (withEntry (entry .fault)).entry (31#8 : Byte).toNat = some (entry .fault) ∧ (entry .fault).owner = .a ∧
      (∀ k ∈ (onBus .read (ticket .p 31)).queuedOf .p, k.number ≠ (31#8 : Byte).toNat) ∧
      (onBus .read (ticket .p 31)).queue.active = some (ticket .p 31) ∧ (ticket .p 31).origin = .p ∧
      (∀ m ∈ ((withEntry (entry .fault)).markDue ⟨31, false⟩).dueMarks, m.index = (31#8 : Byte).toNat) ∧
      (withEntry (entry .fault)).queue.total < 24 ∧
      (withEntry (entry .fault)).queue.counted .p < (withEntry (entry .fault)).settings.quota .p ∧
      (State.reset.setQueued .p [ticket .p 31]).queuedOf .p = [] ++ ticket .p 31 :: [] := by decide

/-- Each check of R111 next to the end of its range, in a request whose later checks pass. -/
theorem witness_MirrorDefineRefusals :
    defineRefusal 32#8 0#8 8#8 1#8 1#16 0#32 0#32 = some .badParam ∧
      defineRefusal 31#8 16#8 8#8 1#8 1#16 0#32 0#32 = some .badParam ∧
      defineRefusal 31#8 0#8 8#8 3#8 1#16 0#32 0#32 = some .badParam ∧
      defineRefusal 31#8 0#8 8#8 1#8 0#16 0#32 0#32 = some .badParam ∧
      defineRefusal 31#8 0#8 8#8 1#8 6001#16 0#32 0#32 = some .badParam ∧
      defineRefusal 31#8 4#8 8#8 1#8 1#16 256#32 0#32 = some .badParam ∧
      defineRefusal 31#8 12#8 8#8 1#8 1#16 2#32 1#32 = some .badParam ∧
      defineRefusal 31#8 0#8 0x78#8 1#8 1#16 0#32 0#32 = some .badAddress ∧
      (handed .b (.mirrorDefine .b 31#8 0#8 8#8 0#8 1#8 1#16 0#32 0#32) (withEntry (entry .fresh))).hands .b
        (.mirrorDefine .b 31#8 0#8 8#8 0#8 1#8 1#16 0#32 0#32) = true ∧
      (withEntry (entry .fresh)).entry 31 = some (entry .fresh) ∧ (entry .fresh).owner ≠ .b ∧
      (∀ e ∈ List.replicate 32 (some (entry .fresh)), e ≠ none) := by decide

theorem witness_MirrorDropEmptiesEntry :
    (handed .a (.mirrorDrop .a 31#8) (withEntry (entry .fresh))).hands .a (.mirrorDrop .a 31#8) = true ∧
      31 < (32#8 : Byte).toNat ∧ State.reset.entry (31#8 : Byte).toNat = none ∧ (31#8 : Byte).toNat ≤ 31 ∧
      (withEntry (entry .fresh)).entry (31#8 : Byte).toNat = some (entry .fresh) ∧ (entry .fresh).owner = .a ∧
      (entry .fresh).owner ≠ .b ∧ (∀ k ∈ (onBus .read (ticket .p 31)).queuedOf .p, k.number ≠ 31) ∧
      (onBus .read (ticket .p 31)).queue.active = some (ticket .p 31) := by decide

theorem witness_MirrorReadCarriesItems :
    (handed .a (.mirrorRead .a [31#8, 0#8]) (withEntry (entry .fresh))).hands .a (.mirrorRead .a [31#8, 0#8]) = true ∧
      (∀ x ∈ [31#8, 0#8], x.toNat ≤ 31) ∧ (∃ x ∈ [31#8, 32#8], 31 < x.toNat) ∧ 8 < (List.replicate 9 0#8).length := by
  decide

theorem witness_SubscriptionsChangeSubscribers :
    (handed .c (.subscribe .c 31#8) (withEntry (entry .fresh))).hands .c (.subscribe .c 31#8) = true ∧
      (handed .c (.unsubscribe .c 31#8) (withEntry (entry .fresh))).hands .c (.unsubscribe .c 31#8) = true ∧
      31 < (32#8 : Byte).toNat ∧ State.reset.entry (31#8 : Byte).toNat = none ∧
      (withEntry (entry .fresh)).entry (31#8 : Byte).toNat = some (entry .fresh) := by decide

theorem witness_RefreshPostsOnce :
    (handed .c (.refresh .c 31#8) (withEntry (entry .stale))).hands .c (.refresh .c 31#8) = true ∧
      (withEntry (entry .stale)).entry (31#8 : Byte).toNat = some (entry .stale) ∧ (entry .stale).posted = false ∧
      (withEntry (entry .stale)).queue.counted .p < (withEntry (entry .stale)).settings.quota .p ∧
      24 ≤ (queuedA (List.replicate 24 (ticket .a 1))).queue.total ∧
      (State.reset.setQueued .p (List.replicate 3 (ticket .p 1))).settings.quota .p ≤
        (State.reset.setQueued .p (List.replicate 3 (ticket .p 1))).queue.counted .p := by decide

/-- The third failure in a row brings FAULT; a failure in FAULT and the results of R127 do not. -/
theorem witness_OtherPollResultsReachEntry :
    (withEntry { entry .stale with fails := 2 }).entry 31 = some { entry .stale with fails := 2 } ∧
      ((withEntry { entry .stale with fails := 2 }).pollResult 31 .noDevice []).entry 31 =
        some { entry .stale with fails := 3, status := .fault, due := 800#16 } ∧
      (withEntry (entry .fault)).entry 31 = some (entry .fault) := by decide

/-- A number equal to a limit is IN_RANGE, in either byte order; the first beyond is not. -/
theorem witness_DonePollFreshensEntry :
    (withEntry (entry .fault)).entry 31 = some (entry .fault) ∧ (entry .fault).rangeOf [2#8] = .inRange ∧
      (entry .fault).rangeOf [5#8] = .inRange ∧ (entry .fault).rangeOf [1#8] = .below ∧
      (entry .fault).rangeOf [6#8] = .above ∧ (entry .fault).rangeOf [0#8, 1#8] = .above ∧
      ({ entry .fault with msbFirst := true } : Entry).rangeOf [0#8, 3#8] = .inRange := by decide

/-! ### Witnesses: settings, STATUS, resets, recovery -/

theorem witness_SettingReadAnswersValue :
    (handed .a (.settingRead .a 12#8) State.reset).hands .a (.settingRead .a 12#8) = true ∧
      (12#8 : Byte).toNat ≤ 12 ∧ 12 < (13#8 : Byte).toNat := by decide

/-- A write in range and out of range at both ends; of the idle-detect time, with a count below and above it. -/
theorem witness_SettingWriteStoresAndTells :
    State.reset.settings.get 4 = some 2#32 ∧ State.reset.settings.idleDetect ≠ 1#32 ∧
    (handed .a (.settingWrite .a 4#8 1#32) State.reset).hands .a (.settingWrite .a 4#8 1#32) = true ∧
      settingInRange 4 1#32 = true ∧ settingInRange 4 50#32 = true ∧ settingInRange 4 0#32 = false ∧
      settingInRange 4 51#32 = false ∧ settingInRange 13 1#32 = false ∧ settingInRange 8 0x10010110#32 = true ∧
      settingInRange 8 0x11010110#32 = false ∧ fieldByte 0x10010110#32 3 ≠ fieldByte State.reset.settings.quotas 3 ∧
      State.reset.monitor.idle.any (fun k => decide ((1#32 : Field).toNat < k)) = false ∧
      (some 2).any (fun k => decide ((1#32 : Field).toNat < k)) = true ∧ State.reset.engine.state.inTransfer = false := by
  decide

/-- With the idle count past 2 ms: a write of the 2 ms stored changes nothing (R180), one of 1 ms frees the bus (R181). -/
theorem test_idle_detect_rewritten :
    State.reset.tick.tick.tick.idleFrees = true ∧
      State.reset.tick.tick.tick.writeSetting .a 4 2#32 = State.reset.tick.tick.tick ∧
      (State.reset.tick.tick.tick.writeSetting .a 4 1#32).monitor.state = .free := by decide

theorem witness_StatusReportsState : (handed .c (.status .c) State.reset).hands .c (.status .c) = true := by decide

theorem witness_OriginResetClearsOrigin :
    (handed .a (.originReset .a) (onBus .write (ticket .a 1))).hands .a (.originReset .a) = true ∧
      (onBus .write (ticket .a 1)).mirror.length ≤ 32 ∧
      (onBus .write (ticket .a 1)).queue.active = some (ticket .a 1) ∧ (ticket .a 1).origin = directOrigin .a ∧
      ((withEntry { entry .fresh with posted := true }).setActive (some (ticket .p 31))).pollsWf = true ∧
      ((withEntry { entry .fresh with posted := true }).setActive (some (ticket .p 31))).dueMarksWf = true ∧
      (ticket .p 31).orphaned = false := by
  decide

theorem witness_BusRecoverByState :
    (handed .b (.busRecover .b) State.reset).hands .b (.busRecover .b) = true ∧ State.reset.engine.state = .idle ∧
      State.reset.monitor.state = .unknown ∧ (State.reset.monitorTo .free).monitor.state = .free ∧
      (State.reset.monitorTo .busyForeign).monitor.state = .busyForeign ∧
      State.reset.enterStuck.engine.state = .stuck ∧ (recovering .pulse 3).engine.state = .recovery := by decide

/-! ### Witnesses: ports -/

/-- The own address 0x4C in either direction, another address, and every state of the slot. -/
theorem witness_AddressByteChoosesTarget :
    (atPort .ignore .empty).resetting = none ∧ ((atPort .ignore .empty).tw .b).target = .ignore ∧
      ((atPort .send .empty).tw .b).slot = .empty ∧ (0x98#8 : Byte).toNat / 2 = 0x4C + State.reset.adsel ∧
      (0x98#8 : Byte).toNat % 2 = 0 ∧ (0x99#8 : Byte).toNat / 2 = 0x4C + State.reset.adsel ∧
      (0x99#8 : Byte).toNat % 2 = 1 ∧ (0x9A#8 : Byte).toNat / 2 ≠ 0x4C + State.reset.adsel ∧
      ((atPort .idle (.ready [1#8])).tw .b).slot = .ready [1#8] ∧ ((atPort .idle .waiting).tw .b).slot = .waiting ∧
      ((atPort .idle (.onTicket 3 5)).tw .b).slot = .onTicket 3 5 := by decide

/-- A transfer that carries a command, one refused, and one that ends a TRANSACT's wait. -/
theorem witness_WriteTransferHandsFrame :
    (atPort .receive (.onTicket 3 5)).resetting = none ∧ ((atPort .receive (.onTicket 3 5)).tw .b).target = .receive ∧
      ((atPort .receive (.onTicket 3 5)).tw .b).handed = none ∧
      decodeFrame (portOrigin .b) ((requestFrame 0x52#8 []).take 39) false
        (decide (39 < (requestFrame 0x52#8 []).length)) true = .command (.status .b) ∧
      decodeFrame (portOrigin .b) ((List.replicate 40 0#8).take 39) false
        (decide (39 < (List.replicate 40 (0#8 : Byte)).length)) true = .refused .badLength ∧
      ((atPort .receive (.onTicket 3 5)).tw .b).slot = .onTicket 3 5 ∧
      (onBus .write (ticket .b 3)).queue.active = some (ticket .b 3) ∧
      (ticket .b 3).origin = directOrigin (portOrigin .b) := by decide

/-- A transfer without bytes ends also while a command waits for its owner (R150): the slot and the command stay. -/
theorem test_empty_transfer_ends :
    ∃ t, exec (.writeTransferEnd .b [] .stop)
        (State.reset.setTw .b { Tw.reset with target := .receive, slot := .waiting, handed := some (.status .b) }) =
      .next t ∧ t.portB.target = .idle ∧ t.portB.slot = .waiting ∧ t.portB.handed = some (.status .b) :=
  ⟨_, rfl, by decide, by decide, by decide⟩

/-- A-SDA in a transfer: the ACK of the 39th byte and not of the 40th; the bits of a second byte sent, 0x5F; the own
address. -/
theorem test_data_line :
    ({ Tw.reset with target := .receive } : Tw).sdaIn 38 8 = .low ∧
      ({ Tw.reset with target := .receive } : Tw).sdaIn 39 8 = .released ∧
      ({ Tw.reset with target := .receive } : Tw).sdaIn 0 7 = .released ∧
      (List.range 9).map (({ Tw.reset with target := .send, out := [0#8, 0x5F#8] } : Tw).sdaIn 1) =
        [.low, .released, .low, .released, .released, .released, .released, .released, .released] ∧
      Tw.addressAck 0x4C 0x99#8 = .low ∧ Tw.addressAck 0x4C 0x9A#8 = .released := by decide

theorem witness_AbortedTransfersLeaveSlot :
    (atPort .receive .empty).resetting = none ∧ ((atPort .receive .empty).tw .b).target = .receive ∧
      ((atPort .ignore .waiting).tw .b).target = .ignore ∧ ((atPort .address .empty).tw .b).target = .address := by
  decide

theorem witness_ReadsOfSlot :
    (atPort .send (.ready [1#8])).resetting = none ∧ ((atPort .send (.ready [1#8])).tw .b).target = .send ∧
      ((atPort .send (.ready [1#8])).tw .b).slot = .ready [1#8] ∧
      (Tw.reset.beginRead).target = .send ∧ (Tw.reset.beginRead).slot = .empty ∧ (Tw.reset.beginRead).pos = 0 ∧
      (Tw.reset.beginRead).out = responseFrame .noRequest [] := by decide

/-- A hold count of 5 ms at its sixth change. -/
theorem witness_HoldLimitMakesPending :
    ((State.reset.setTw .a { Tw.reset with target := .hold, slot := .onTicket 3 5, hold := some ⟨5, 6⟩ }).tw .a).slot =
        .onTicket 3 5 ∧
      ((State.reset.setTw .a { Tw.reset with target := .hold, slot := .onTicket 3 5, hold := some ⟨5, 6⟩ }).tw .a).hold =
        some ⟨5, 6⟩ ∧
      (State.reset.setPortC { PortC.reset with slot := .onTicket 3 5, hold := some ⟨5, 6⟩ }).portC.slot =
        .onTicket 3 5 ∧
      (State.reset.setPortC { PortC.reset with slot := .onTicket 3 5, hold := some ⟨5, 6⟩ }).portC.hold =
        some ⟨5, 6⟩ ∧
      (∃ t, exec (.blockEnd (requestFrame 0x52#8 []) 0) (State.reset.setPortC (PortC.reset.beginBlock 20)) = .next t ∧
        t.portC.handed = some (.status .c)) ∧
      (State.reset.setPortC (PortC.reset.beginBlock 20)).portC.handed = none ∧
      ranOut (some ⟨5, 6⟩) = true ∧ ranOut (some ⟨5, 5⟩) = false ∧
      (queuedA [{ ticket .a 3 with waited := true }]).queuedOf (directOrigin (portOrigin .a)) =
        [{ ticket .a 3 with waited := true }] :=
  ⟨by decide, by decide, by decide, by decide, ⟨_, rfl, by decide⟩, by decide⟩

/-- A read and a block begun 2 ms before a TRANSACT's admission: those changes of the broker time count (R143). -/
theorem test_hold_count_from_start :
    ({ Tw.reset with slot := .waiting } : Tw).beginRead.tick.tick.awaitTicket 3 5 =
        { Tw.reset with target := .hold, slot := .onTicket 3 5, hold := some ⟨5, 2⟩ } ∧
      ({ Tw.reset with slot := .waiting } : Tw).tick.awaitTicket 3 5 = { Tw.reset with slot := .onTicket 3 5 } ∧
      (PortC.reset.await (some (.status .c))).tick.tick.awaitTicket 3 5 =
        { PortC.reset with slot := .onTicket 3 5, hold := some ⟨5, 2⟩ } := by decide

theorem witness_BlockStartChoosesLead :
    State.reset.resetting = none ∧ State.reset.portC.inBlock = false ∧ State.reset.portC.slot = .empty ∧
      (State.reset.setPortC { PortC.reset with slot := .ready [1#8], discarded := true }).portC.slot = .ready [1#8] ∧
      (State.reset.setPortC { PortC.reset with slot := .waiting }).portC.slot = .waiting ∧ (7 : Nat) < 8 := by decide

/-- C-DO in a block that gives out a response: the bits of the lead byte 0xA5, of 0x0F, of the 0xFF after the check byte;
high between blocks (R162, R167). -/
theorem test_c_do :
    (List.range 8).map (({ PortC.reset with slot := .ready [0x0F#8] } : PortC).beginBlock 20 |>.doIn 0) =
        [.high, .low, .high, .low, .low, .high, .low, .high] ∧
      (List.range 8).map (({ PortC.reset with slot := .ready [0x0F#8] } : PortC).beginBlock 20 |>.doIn 1) =
        [.low, .low, .low, .low, .high, .high, .high, .high] ∧
      (({ PortC.reset with slot := .ready [0x0F#8] } : PortC).beginBlock 20).doIn 2 1 = .high ∧
      (({ PortC.reset with slot := .waiting } : PortC).beginBlock 20).doIn 6 7 = .low ∧
      ({ PortC.reset with lead := some 0#8 } : PortC).doIn 0 0 = .high := by decide

/-- An ORIGIN RESET handed over and a block begun before it is taken: that block does not end first, and the reset is taken
with the discarded mark clear; after it the block ends, discarded (R171, R174). -/
theorem test_reset_before_next_block_ends :
    let s := (handed .c (.originReset .c) State.reset).setPortC
      ((handed .c (.originReset .c) State.reset).portC.beginBlock 20)
    s.portC.wf = true ∧ s.portC.discarded = false ∧ exec (.blockEnd [0#8] 0) s = .next s ∧
      ∃ t u, exec (.originReset .c) s = .next t ∧ exec (.blockEnd [0#8] 0) t = .next u ∧ u.portC.discarded = true :=
  ⟨by decide, by decide, rfl, _, _, rfl, rfl, by decide⟩

/-- A block of one byte, of L 37, one byte short of its frame, and of a frame and filler; begun EMPTY and WAITING. -/
theorem witness_BlockEndTakesOrDiscards :
    (State.reset.setPortC (PortC.reset.beginBlock 20)).resetting = none ∧
      (State.reset.setPortC (PortC.reset.beginBlock 20)).portC.inBlock = true ∧
      (State.reset.setPortC (PortC.reset.beginBlock 20)).portC.handed = none ∧
      (handed .c (.status .c) State.reset).portC.handed ≠ none ∧
      (State.reset.setPortC (PortC.reset.beginBlock 20)).portC.lead ≠ some 0xFE#8 ∧
      ({ PortC.reset with slot := .waiting } : PortC).leadByte = 0xFE#8 ∧ 36 < (37#8 : Byte).toNat ∧
      [0x52#8, 0#8].length < (0#8 : Byte).toNat + 3 ∧
      (0#8 : Byte).toNat + 3 ≤ (requestFrame 0x52#8 [] ++ [7#8]).length ∧
      decodeFrame .c ((requestFrame 0x52#8 [] ++ [7#8]).take 3) false false true = .command (.status .c) ∧
      decodeFrame .c ([0x52#8, 0#8, 0#8].take 3) false false true = .refused .badCheck := by decide

/-! ### Witnesses: the scheduler and the engine -/

/-- P current without credit: A's head is chosen; a lease of B on its address defers it, but not a poll ticket. -/
theorem witness_SchedulerChoosesByRotation :
    (queuedA [ticket .a 1]).queue.current = .p ∧ (queuedA [ticket .a 1]).queue.credit = 0 ∧
      (queuedA [ticket .a 1]).eligible .a = some (ticket .a 1) ∧
      [Origin.a, .b, .c, .p] = [] ++ Origin.a :: [.b, .c, .p] ∧
      (queuedA [ticket .a 1]).choose = some ⟨.a, 0, ticket .a 1⟩ ∧
      ((queuedA [ticket .a 1]).setLeases [⟨0x20#8, .b, 5#16, false, true⟩]).choose = none ∧
      ((queuedA [ticket .a 1]).setLeases [⟨0x20#8, .b, 5#16, false, true⟩]).deferred (ticket .p 4) = false ∧
      ((queuedA [ticket .a 1]).setLeases [⟨0x20#8, .a, 5#16, false, false⟩]).deferred (ticket .p 4) = true ∧
      ((queuedA [ticket .a 1]).setLeases [⟨0x20#8, .a, 5#16, false, false⟩]).choose = some ⟨.a, 0, ticket .a 1⟩ ∧
      ((queuedA [ticket .a 1]).setQueue { (queuedA [ticket .a 1]).queue with current := .a, credit := 1 }).eligible .a =
        some (ticket .a 1) ∧
      (State.reset.setQueued .p [ticket .p 4]).queuedOf .p = [] ++ ticket .p 4 :: [] ∧
      (State.reset.setQueued .p [ticket .p 4]).deferred (ticket .p 4) = false := by decide

theorem witness_TicketStartMakesStart :
    ((queuedA [ticket .a 1]).monitorTo .free).resetting = none ∧
      ((queuedA [ticket .a 1]).monitorTo .free).engine.state = .idle ∧
      ((queuedA [ticket .a 1]).monitorTo .free).monitor.state = .free ∧
      ((queuedA [ticket .a 1]).monitorTo .free).choose = some ⟨.a, 0, ticket .a 1⟩ := by decide

theorem witness_AddressAcknowledgeDecides :
    (onBus .address (ticket .a 1)).resetting = none ∧ (onBus .address (ticket .a 1)).engine.state = .address ∧
      (onBus .address (ticket .a 1)).queue.active = some (ticket .a 1) ∧ (ticket .a 1).abort = false ∧
      (ticket .a 1).kind = .write ∧ ({ ticket .a 1 with kind := .probe } : Ticket).abort = false ∧
      ({ ticket .a 1 with kind := .read } : Ticket).abort = false := by decide

/-- The last write byte, and one before the last. -/
theorem witness_WriteAcknowledgeCounts :
    (onBus .write (ticket .a 1)).resetting = none ∧ (onBus .write (ticket .a 1)).engine.state = .write ∧
      (onBus .write (ticket .a 1)).queue.active = some (ticket .a 1) ∧ (ticket .a 1).abort = false ∧
      (ticket .a 1).wdata.length ≤ (ticket .a 1).acked + 1 ∧ (ticket .a 1).kind ≠ .writeRead ∧
      (ticket .a 1).acked + 1 < ({ ticket .a 1 with wdata := [1#8, 2#8] } : Ticket).wdata.length ∧
      ({ ticket .a 1 with kind := .writeRead } : Ticket).kind = .writeRead := by decide

/-- The last read byte, and one before the last. -/
theorem witness_ReadPhaseKeepsBytes :
    (onBus .restart (ticket .a 1)).engine.state = .restart ∧ (onBus .read (ticket .a 1)).resetting = none ∧
      (onBus .read (ticket .a 1)).engine.state = .read ∧ (ticket .a 1).abort = false ∧
      (onBus .read (ticket .a 1)).queue.active = some (ticket .a 1) ∧
      (ticket .a 1).rdata.length + 1 < ({ ticket .a 1 with rlen := 2 } : Ticket).rlen ∧
      ({ ticket .a 1 with rlen := 1 } : Ticket).rlen ≤ (ticket .a 1).rdata.length + 1 := by decide

theorem witness_AbortEndsAtByteBoundary :
    (onBus .read { ticket .a 1 with abort := true }).resetting = none ∧
      (onBus .read { ticket .a 1 with abort := true }).queue.active = some { ticket .a 1 with abort := true } ∧
      (onBus .address { ticket .a 1 with abort := true }).engine.state = .address ∧
      (onBus .write { ticket .a 1 with abort := true }).engine.state = .write ∧
      (onBus .restart { ticket .a 1 with abort := true }).engine.state = .restart ∧
      (onBus .read { ticket .a 1 with abort := true }).engine.state = .read := by decide

/-- The part with the engine's STOP on the bus. -/
def stopping (k : Ticket) : State := (onBus .write k).toStopping .done k

theorem witness_StopCompleteEndsTicket :
    (stopping (ticket .a 1)).resetting = none ∧ (stopping (ticket .a 1)).engine.state = .stopping ∧
      (stopping (ticket .a 1)).queue.active = some (ticket .a 1) ∧ (stopping (ticket .a 1)).engine.fixed = some .done ∧
      (ticket .a 1).orphaned = false ∧ (ticket .a 1).origin = directOrigin .a ∧ (ticket .p 4).origin = .p ∧
      ((stopping { ticket .a 1 with waited := true }).setTw .a { Tw.reset with slot := .onTicket 1 5 }).slotOf .a =
        .onTicket (ticket .a 1).number 5 := by decide

/-- A check point in an address, in a write byte that is not 0, and in the NACK of the last read byte; a ticket with a
retry left, one without, one at its deadline. -/
theorem witness_ArbitrationLossGivesTicketBack :
    (onBus .write (ticket .a 1)).resetting = none ∧
      (onBus .write (ticket .a 1)).queue.active = some (ticket .a 1) ∧
      (onBus .write (ticket .a 1)).engine.bit.getD 0 ≤ 7 ∧ ((ticket .a 1).sentByte .write).getLsbD (7 - 7) = true ∧
      (onBus .read (ticket .a 1)).engine.state = .read ∧
      (((onBus .write (ticket .a 1)).setEngine { Engine.reset with state := .write, bit := some 7 }).see false
        false).monitor.sda = false ∧
      ({ ticket .a 1 with rlen := 1 } : Ticket).rlen ≤ (ticket .a 1).rdata.length + 1 ∧
      (ticket .a 1).rdata.length < ({ ticket .a 1 with rlen := 1 } : Ticket).rlen ∧
      (ticket .a 1).retries < State.reset.settings.retryLimit.toNat ∧
      State.reset.settings.retryLimit.toNat ≤ ({ ticket .a 1 with retries := 3 } : Ticket).retries ∧
      (ticket .a 1).deadlineReached = false ∧ ({ ticket .a 1 with deadlineReached := true } : Ticket).noRetry = false := by
  decide

/-- The check points of R48 end with the last bit sent as 1: at bit 7 of a write byte 1 there is one, at the device's
acknowledge bit none; in READ the check is that of the NACK driven. -/
theorem test_check_points :
    ({ Engine.reset with state := .write, bit := some 7 } : Engine).checkPoint (ticket .a 1) .nothing = true ∧
      ({ Engine.reset with state := .write, bit := some 8 } : Engine).checkPoint (ticket .a 1) .nothing = false ∧
      ({ Engine.reset with state := .address, bit := some 2 } : Engine).checkPoint (ticket .a 1) .nothing = false ∧
      ({ Engine.reset with state := .address, bit := some 1 } : Engine).checkPoint (ticket .a 1) .nothing = true ∧
      ({ Engine.reset with state := .restart, bit := some 8 } : Engine).checkPoint (ticket .a 1) .nothing = false ∧
      ({ Engine.reset with state := .restart, bit := none } : Engine).checkPoint (ticket .a 1) .nothing = true ∧
      ({ Engine.reset with state := .read, bit := some 8, sdaDrive := .low } : Engine).checkPoint
        { ticket .a 1 with abort := true } (.readByte 0#8) = false := by decide

/-- A rise of D-SCL with D-SDA low: not taken at a bit sent as 1 nor at the opening of a repeated START, and there
arbitration can be lost; taken at a bit sent as 0, at the device's acknowledge bit and in the STOP (R48). -/
theorem test_rise_at_check_point :
    let at' := fun b => ((onBus .write (ticket .a 1)).setEngine
      { Engine.reset with state := .write, bit := some b }).see false false
    ((at' 7).sclMayRise = false ∧ (at' 7).engine.checkPoint (ticket .a 1) .nothing = true ∧
      (at' 6).sclMayRise = true ∧ (at' 8).sclMayRise = true ∧ ((at' 7).see false true).sclMayRise = true) ∧
      (((onBus .write (ticket .a 1)).enterPhase .restart none none (ticket .a 1)).see false false).sclMayRise = false ∧
      ((stopping (ticket .a 1)).see false false).sclMayRise = true ∧
      (((onBus .read (ticket .a 1)).setEngine { Engine.reset with state := .read, bit := some 8 }).see false
        false).sclMayRise = false := by decide

theorem witness_cut : cutLeaves .write (ticket .a 1) .nothing (ticket .a 1) ∧
    cutLeaves .read { ticket .a 1 with rlen := 1 } (.readByte 7#8) { ticket .a 1 with rlen := 1, rdata := [7#8] } ∧
      cutLeaves .write (ticket .a 1) .writeAck { ticket .a 1 with acked := 1, greatest := 1 } :=
  ⟨.inl ⟨rfl, rfl⟩, .inr (.inr ⟨7#8, by decide⟩), .inr (.inl (by decide))⟩

theorem witness_MisplacedConditionEndsTicket :
    (onBus .read (ticket .a 1)).resetting = none ∧ (onBus .read (ticket .a 1)).queue.active = some (ticket .a 1) ∧
      (onBus .read (ticket .a 1)).engine.state ∈ [EngineState.address, .write, .restart, .read, .stopping] ∧
      (onBus .read (ticket .a 1)).monitor.state = .busyOwn := by decide

/-- A byte stretch limit of 8 ms at its ninth change. -/
theorem witness_TimeoutEndsTicketInRecovery :
    ((onBus .write (ticket .a 1)).setEngine
        { (onBus .write (ticket .a 1)).engine with stretch := some ⟨8, 9⟩ }).engine.stretch = some ⟨8, 9⟩ ∧
      ((onBus .write (ticket .a 1)).setEngine
        { (onBus .write (ticket .a 1)).engine with trans := some ⟨35, 36⟩ }).engine.trans = some ⟨35, 36⟩ ∧
      ((onBus .write (ticket .a 1)).setEngine
        { (onBus .write (ticket .a 1)).engine with stretch := some ⟨8, 9⟩ }).queue.active = some (ticket .a 1) ∧
      ((onBus .write (ticket .a 1)).setEngine
        { (onBus .write (ticket .a 1)).engine with stretch := some ⟨8, 9⟩ }).engine.state = .write ∧
      8 + 1 ≤ (⟨8, 9⟩ : Count).changes ∧ 35 + 1 ≤ (⟨35, 36⟩ : Count).changes := by decide

/-! ### Witnesses: recovery, the monitor, time, broker reset -/

/-- The eighth pulse and the ninth. -/
theorem witness_RecoverySequence :
    (recovering .waitClock 0).resetting = none ∧ (recovering .waitClock 0).engine.state = .recovery ∧
      (recovering .waitClock 0).engine.phase = some .waitClock ∧ (recovering .pulse 7).engine.pulses < 8 ∧
      8 ≤ (recovering .pulse 8).engine.pulses ∧ (recovering .pulse 8).engine.phase = some .pulse ∧
      (recovering .stop 9).engine.phase = some .stop := by decide

theorem witness_FailedRecoveryIsStuck :
    (recovering .stop 9).resetting = none ∧ (recovering .stop 9).engine.state = .recovery ∧
      (recovering .pulse 8).engine.phase = some .pulse ∧ 8 ≤ (recovering .pulse 8).engine.pulses ∧
      (recovering .stop 9).engine.wait = some ⟨10, 11⟩ ∧ (10 : Nat) + 1 ≤ 11 ∧
      (State.reset.setEngine { State.reset.enterStuck.engine with retry := some ⟨250, 251⟩ }).engine.state = .stuck ∧
      (State.reset.setEngine { State.reset.enterStuck.engine with retry := some ⟨250, 251⟩ }).engine.retry =
        some ⟨250, 251⟩ := by decide

/-- An idle-detect time of 2 ms at its third change. -/
theorem witness_ConditionsMoveMonitor :
    State.reset.resetting = none ∧ State.reset.monitor.state ≠ .free ∧
      State.reset.engine.state ∈ [EngineState.idle, .backoff, .recovery, .stuck] ∧
      (State.reset.setFreeTime (some ⟨50, false⟩)).monitor.free ≠ none ∧
      (State.reset.setMonitor { Monitor.reset true true with idle := some 3 }).monitor.idle = some 3 ∧
      State.reset.settings.idleDetect.toNat + 1 ≤ 3 ∧ State.reset.enterStuck.engine.busLost = true ∧
      State.reset.enterStuck.engine.state = .stuck := by decide

theorem witness_MonitorFollowsLines :
    (State.reset.see false false).queue.active = none ∧
    (State.reset.monitorTo .free).monitor.state = .free ∧ (State.reset.see false false).monitor.scl = false ∧
      (State.reset.see false false).monitor.sda ≠ true ∧ State.reset.monitor.scl = true ∧
      State.reset.engine.sdaDrive = .released ∧ (onBus .write (ticket .a 1)).engine.bit = some 3 ∧
      (onBus .write (ticket .a 1)).monitor.scl = true ∧ (onBus .write (ticket .a 1)).monitor.state = .busyOwn ∧
      (onBus .read (ticket .a 1)).engine.bit = some 3 ∧ (onBus .read (ticket .a 1)).queue.active = some (ticket .a 1) ∧
      (((onBus .write (ticket .a 1)).enterPhase .restart none none (ticket .a 1)).see true true).engine.bit = none ∧
      ((stopping (ticket .a 1)).see true false).engine.bit = none ∧
      ((stopping (ticket .a 1)).see true false).monitor.state = .busyOwn ∧
      (State.reset.setMonitor { Monitor.reset true false with held := some ⟨50, 51⟩ }).monitor.held = some ⟨50, 51⟩ := by
  decide

theorem witness_ExpiriesAreTaken :
    (queuedA [ticket .a 1, { ticket .a 2 with deadlineReached := true }]).queuedOf (directOrigin .a) =
        [ticket .a 1] ++ { ticket .a 2 with deadlineReached := true } :: [] ∧
      (∀ j ∈ [ticket .a 1], j.number ≠ 2) ∧ ({ ticket .a 2 with deadlineReached := true } : Ticket).number = 2 ∧
      (State.reset.setQueued .p [{ ticket .p 4 with deadlineReached := true }]).queuedOf .p =
        [] ++ { ticket .p 4 with deadlineReached := true } :: [] ∧
      (State.reset.setLeases [⟨8#8, .b, 0#16, true, true⟩]).leases = [] ++ ⟨8#8, .b, 0#16, true, true⟩ :: [] := by
  decide

/-- An entry due and not posted, one posted; a place for P and none; an age one above the stale limit. -/
theorem witness_DueAndStaleEntries :
    (withEntry { entry .fresh with dueReached := true }).entry 31 = some { entry .fresh with dueReached := true } ∧
      (withEntry { entry .fresh with dueReached := true }).dueMarks = [] ∧
      (∀ j < 31, (withEntry { entry .fresh with dueReached := true }).entry j = none) ∧
      ({ entry .fresh with dueReached := true, posted := true } : Entry).posted = true ∧
      (withEntry { entry .fresh with dueReached := true }).mirror.length = 32 ∧
      (∀ m ∈ ((withEntry { entry .fresh with dueReached := true }).setDueMarks [⟨0, false⟩]).dueMarks, m.fresh = false) ∧
      (withEntry { entry .fresh with age := 201 }).entry 31 = some { entry .fresh with age := 201 } ∧
      min (2 * ((entry .fresh).interval * 10)) 65534 < 201 := by decide

theorem witness_TickReachesEveryTimer :
    State.reset.resetting = none ∧ (withEntry (entry .fresh)).entry 31 = some (entry .fresh) ∧
      (withEntry (entry .fresh)).isDue 31 = false ∧ State.reset.monitor.idle = some 0 ∧
      ((State.reset.setTw .a { Tw.reset with target := .hold, slot := .waiting, since := some 0 }).tw .a).since =
        some 0 ∧
      (State.reset.setPortC (PortC.reset.await none)).portC.since = some 0 := by decide

/-- Two entries wait and P has one place: at a retry trigger the one that has waited longer posts (R122). -/
theorem test_retry_order :
    ((((State.reset.setEntry 3 (some (entry .fresh))).setEntry 31 (some (entry .stale))).setDueMarks
        [⟨31, false⟩, ⟨3, false⟩]).setQueued .p (List.replicate 2 (ticket .p 7))).retryPosts.dueMarks = [⟨3, false⟩] ∧
      ((((State.reset.setEntry 3 (some (entry .fresh))).setEntry 31 (some (entry .stale))).setDueMarks
        [⟨31, false⟩, ⟨3, false⟩]).setQueued .p (List.replicate 2 (ticket .p 7))).dueMarksWf = true := by decide

/-- P has no place, and entries 20 and then 5 are defined in one millisecond: 20 waits ahead of 5, and posts first once P has
a place; entries that fall due on one change wait in index order behind them (R122). -/
theorem test_definitions_wait_in_order :
    let s := (((((State.reset.setQueued .p (List.replicate 3 (ticket .p 7))).setEntry 20 (some (entry .fresh))).fallsDue
      20).setEntry 5 (some (entry .fresh))).fallsDue 5)
    let due := some { entry .fresh with dueReached := true }
    s.dueMarks = [⟨20, false⟩, ⟨5, false⟩] ∧
      (s.setQueued .p (List.replicate 2 (ticket .p 7))).retryPosts.dueMarks = [⟨5, false⟩] ∧
      (((s.setEntry 9 due).setEntry 2 due).allFallDue 0#16).dueMarks =
        [⟨20, false⟩, ⟨5, false⟩, ⟨2, true⟩, ⟨9, true⟩] := by decide

/-- Within a change of the broker time the engine releases D-SCL, and the pin shows it (R32). -/
theorem test_low_time_over :
    (onBus .write (ticket .a 1)).settle.pins.dScl = .released ∧
      ((onBus .write (ticket .a 1)).enterPhase .write (some 0) none (ticket .a 1)).settle.pins.dScl = .low ∧
      ((onBus .write (ticket .a 1)).enterPhase .write (some 0) none (ticket .a 1)).tick.settle.pins.dScl = .released := by
  decide

theorem witness_BrokerResetEntryAndRelease : (State.reset.enterReset .external).resetting = some .external := by decide

/-- The part right after reset with a change of the broker time waiting. -/
def ticking : State := State.reset.setPending [.brokerTimeTick]

theorem witness_OutputsFollowState : ticking.outputsRight = true ∧ ∃ t, step ticking = .next t :=
  ⟨by decide, _, rfl⟩

theorem witness_TablesStayWellFormed :
    (ticking.recordsWf = true ∧ ticking.settings.wf = true ∧ ticking.leasesWf = true ∧ ticking.mirrorWf = true) ∧
      (ticking.dueMarksWf = true ∧ ticking.mirrorWf = true) ∧ ∃ t, step ticking = .next t :=
  ⟨by decide, by decide, _, rfl⟩

theorem witness_PortsStayWellFormed : ticking.portsWf = true ∧ ∃ t, step ticking = .next t := ⟨by decide, _, rfl⟩

theorem witness_BusStaysWellFormed :
    ticking.settings.wf = true ∧ ticking.busWf = true ∧
      (ticking.recordsWf = true ∧ ticking.queue.wf = true ∧ ticking.mirrorWf = true ∧ ticking.dueMarksWf = true ∧
        ticking.ticketsWf = true) ∧ ∃ t, step ticking = .next t :=
  ⟨by decide, by decide, by decide, _, rfl⟩

end Sys2Proof.Tests
end

/-! Invariants of single steps: what holds whatever the ports and the outputs are. -/

namespace Sys2Proof.Machine

variable {P : State → Prop} {s t : State}

/-- A property of the state that neither a port nor an output takes part in, and that the end of a port's wait on a
ticket keeps (R153). -/
structure PortFree (P : State → Prop) : Prop where
  congr : ∀ s t : State, t.queue = s.queue → t.engine = s.engine → t.monitor = s.monitor → t.mirror = s.mirror →
    t.dueMarks = s.dueMarks → t.records = s.records → P s → P t
  unwait : ∀ (s : State) (o : Direct) (n : Nat), P s → P (s.setQueue (s.queue.unwait o n))

theorem PortFree.settle (hP : PortFree P) (h : P s) : P s.settle := by
  apply hP.congr s <;> simp [h]

theorem PortFree.reply (hP : PortFree P) (o : Direct) (r : Reply) (h : P s) : P (s.reply o r) := by
  apply hP.congr s <;> simp [h]

theorem PortFree.putReady (hP : PortFree P) (o : Direct) (f : List Byte) (h : P s) : P (s.putReady o f) := by
  apply hP.congr s <;> simp [h]

theorem PortFree.setTw (hP : PortFree P) (port : TwPort) (x : Tw) (h : P s) : P (s.setTw port x) := by
  apply hP.congr s <;> simp [h]

theorem PortFree.setPortC (hP : PortFree P) (x : PortC) (h : P s) : P (s.setPortC x) := by
  apply hP.congr s <;> simp [h]

theorem PortFree.setPending (hP : PortFree P) (l : List Instr) (h : P s) : P (s.setPending l) := by
  apply hP.congr s <;> simp [h]

theorem PortFree.stopWaiting (hP : PortFree P) (o : Direct) (h : P s) : P (s.stopWaiting o) := by
  unfold State.stopWaiting
  split
  · exact hP.unwait s o _ h
  · exact h

theorem PortFree.replaceSlot (hP : PortFree P) (o : Direct) (i : Option Instr) (h : P s) :
    P (s.replaceSlot o i) := by
  have hw := hP.stopWaiting o h
  cases o
  · exact hP.setTw .a _ hw
  · exact hP.setTw .b _ hw
  · exact hP.setPortC _ hw

theorem PortFree.withFrame (hP : PortFree P) (o : Direct) (i : Instr) (h : P s) : P (s.withFrame o i) := by
  apply hP.replaceSlot
  apply hP.congr s <;> simp [h]

theorem PortFree.decoded (hP : PortFree P) (o : Direct) (d : Decoded) (h : P s) : P (s.decoded o d) := by
  cases d with
  | refused status => exact hP.putReady o _ (hP.replaceSlot o _ h)
  | command i => exact hP.replaceSlot o _ h

/-- What a command's act keeps where `Q` holds, the command keeps where `Q` holds. -/
theorem PortFree.command_where {Q : State → Prop} (hP : PortFree P) (hQ : PortFree Q) {o : Direct} {i : Instr}
    {act : State → State × Reply} (hs : P s) (hq : Q s) (hact : ∀ u, P u → Q u → P (act u).1)
    (h : command o i act s = .next t) : P t := by
  have hc : ∀ u, P u → Q u → P (u.carryOut o act) := fun u hu hqu => hP.settle (hP.reply o _ (hact u hu hqu))
  rcases command_cases s o i act with ⟨-, h1⟩ | ⟨-, h1⟩ | h1 <;> rw [h1] at h <;> cases h
  · exact hc s hs hq
  · exact hc _ (hP.withFrame o i hs) (hQ.withFrame o i hq)
  · exact hs

/-- What a command's act keeps, the command keeps. -/
theorem PortFree.command (hP : PortFree P) {o : Direct} {i : Instr} {act : State → State × Reply} (hs : P s)
    (hact : ∀ u, P u → P (act u).1) (h : command o i act s = .next t) : P t :=
  hP.command_where hP hs hs (fun u hu _ => hact u hu) h

/-- What an event's effect keeps, the event keeps. -/
theorem PortFree.event (hP : PortFree P) {possible : Bool} {e : State} (hs : P s)
    (he : possible = true → P e) (h : event possible e s = .next t) : P t := by
  rcases event_cases s possible e with ⟨-, hp, h1⟩ | h1 <;> rw [h1] at h <;> cases h
  · exact hP.settle (he hp)
  · exact hs

/-- The end of a write transfer reaches its port, and the queue by the end of a wait. -/
theorem PortFree.endWrite (hP : PortFree P) (port : TwPort) (bytes : List Byte) (c : Cond) (h : P s) :
    P (s.endWrite port bytes c) := by
  unfold State.endWrite
  dsimp only
  split_ifs
  · exact hP.setTw port _ h
  · exact hP.decoded _ _ (hP.setTw port _ h)

theorem PortFree.holdExpires (hP : PortFree P) (o : Direct) (n : Nat) (h : P s) : P (s.holdExpires o n) :=
  hP.putReady o _ (hP.stopWaiting o h)

/-- The end of a block reaches Port C, and the queue by the end of a wait. -/
theorem PortFree.endBlock (hP : PortFree P) (bytes : List Byte) (h : P s) : P (s.endBlock bytes) := by
  have hb := hP.setPortC (s.portC.took bytes).between h
  unfold State.endBlock State.takeRequest
  dsimp only
  split
  · exact hb
  · split_ifs
    · exact hP.setPortC _ hb
    · exact hP.decoded _ _ hb

/-- The events of the ports: of an upstream bus, of a block, and of their hold counts. -/
def isPortEvent : Instr → Bool
  | .upstreamAddressByte .. | .writeTransferEnd .. | .writeTransferAbort .. | .responseReadComplete ..
  | .readEndedEarly .. | .noRequest .. | .holdLimitExpiry .. | .blockStart | .blockEnd .. | .portCHoldExpiry
  | .upstreamStop .. => true
  | _ => false

theorem PortFree.exec_portEvent (hP : PortFree P) (i : Instr) (hi : isPortEvent i = true) (hs : P s)
    (h : exec i s = .next t) : P t := by
  cases i
  case writeTransferEnd port bytes c => exact hP.event hs (fun _ => hP.endWrite port bytes c hs) h
  case blockStart => exact hP.event hs (fun _ => hP.setPortC _ hs) h
  case blockEnd bytes bits => exact hP.event hs (fun _ => hP.endBlock bytes hs) h
  case holdLimitExpiry port =>
    simp only [exec, execHoldLimitExpiry] at h
    split at h
    · exact hP.event hs (fun _ => hP.holdExpires _ _ hs) h
    all_goals exact hP.event hs (fun _ => hs) h
  case portCHoldExpiry =>
    simp only [exec, execPortCHoldExpiry] at h
    split at h
    · exact hP.event hs (fun _ => hP.holdExpires _ _ hs) h
    all_goals exact hP.event hs (fun _ => hs) h
  case upstreamAddressByte port b => exact hP.event hs (fun _ => hP.setTw port _ hs) h
  case writeTransferAbort port c => exact hP.event hs (fun _ => hP.setTw port _ hs) h
  case responseReadComplete port ack => exact hP.event hs (fun _ => hP.setTw port _ hs) h
  case readEndedEarly port how => exact hP.event hs (fun _ => hP.setTw port _ hs) h
  case noRequest port ack => exact hP.event hs (fun _ => hP.setTw port _ hs) h
  case upstreamStop port => exact hP.event hs (fun _ => hP.setTw port _ hs) h
  all_goals cases hi

end Sys2Proof.Machine

/-! The engine, the monitor and the queue in agreement (R5, R24, R41, R67). -/

namespace Sys2Proof.Machine

variable {s t : State}

/-! ### The queue's bounds -/

/-- The queue's bounds with room for so many more tickets (R3, R5, R24). -/
structure Queue.Fits (q : Queue) (n : Nat) : Prop where
  total : q.total + n ≤ 24
  counters : ∀ o, 1 ≤ q.counter.get o ∧ q.counter.get o ≤ 255
  credit : q.credit + q.activeCount ≤ 4

theorem Queue.wf_iff (q : Queue) : q.wf = true ↔ q.Fits 0 := by
  have h24 : Config.maxTickets = 24 := rfl
  simp only [Queue.wf, counterRight, h24, Bool.and_eq_true, decide_eq_true_eq]
  constructor
  · rintro ⟨⟨⟨⟨ht, ha⟩, hb⟩, hc⟩, hcr⟩
    exact ⟨ht, fun o => by cases o <;> assumption, hcr⟩
  · rintro ⟨ht, hc, hcr⟩
    exact ⟨⟨⟨⟨ht, hc .a⟩, hc .b⟩, hc .c⟩, hcr⟩

theorem Queue.Fits.mono {q : Queue} {m n : Nat} (h : q.Fits n) (hmn : m ≤ n) : q.Fits m :=
  ⟨by have := h.total; omega, h.counters, h.credit⟩

theorem Queue.total_setQueued (q : Queue) (o : Origin) (l : List Ticket) :
    ({ q with queued := q.queued.set o l } : Queue).total + (q.queued.get o).length = q.total + l.length := by
  cases o <;> simp only [Queue.total, Queue.activeCount, PerOrigin.set, PerOrigin.get] <;> omega

theorem Queue.total_setWaiting (q : Queue) (o : Direct) (l : List Ticket) :
    ({ q with waiting := q.waiting.set o l } : Queue).total + (q.waiting.get o).length = q.total + l.length := by
  cases o <;> simp only [Queue.total, Queue.activeCount, PerDirect.set, PerDirect.get] <;> omega

/-- Another order of an origin fits where it is not longer than the old one by more than the room. -/
theorem Queue.Fits.setQueued {q : Queue} {n m : Nat} (h : q.Fits n) (o : Origin) (l : List Ticket)
    (hl : l.length + m ≤ (q.queued.get o).length + n) :
    ({ q with queued := q.queued.set o l } : Queue).Fits m :=
  ⟨by have := h.total; have := q.total_setQueued o l; omega, h.counters, h.credit⟩

theorem Queue.Fits.setWaiting {q : Queue} {n m : Nat} (h : q.Fits n) (o : Direct) (l : List Ticket)
    (hl : l.length + m ≤ (q.waiting.get o).length + n) :
    ({ q with waiting := q.waiting.set o l } : Queue).Fits m :=
  ⟨by have := h.total; have := q.total_setWaiting o l; omega, h.counters, h.credit⟩

/-- Another ACTIVE ticket in the place of one. -/
theorem Queue.Fits.setActive {q : Queue} {n : Nat} (h : q.Fits n) (a : Option Ticket)
    (ha : a.isSome = q.active.isSome) : ({ q with active := a } : Queue).Fits n := by
  have hc : ({ q with active := a } : Queue).activeCount = q.activeCount := by simp [Queue.activeCount, ha]
  exact ⟨by have := h.total; simp only [Queue.total, hc] at this ⊢; omega, h.counters, by simpa [hc] using h.credit⟩

/-- The ACTIVE ticket leaves its place, and the place is free. -/
theorem Queue.Fits.clearActive {q : Queue} {k : Ticket} (h : q.Fits 0) (ha : q.active = some k) :
    ({ q with active := none } : Queue).Fits 1 := by
  obtain ⟨ht, hc, hcr⟩ := h
  simp only [Queue.total, Queue.activeCount, ha] at ht hcr
  exact ⟨by simp [Queue.total, Queue.activeCount] at ht ⊢; omega, hc, by simp [Queue.activeCount] at hcr ⊢; omega⟩

theorem Queue.Fits.setCounter {q : Queue} {n : Nat} (h : q.Fits n) (o : Direct) (m : Nat) (h1 : 1 ≤ m) (h2 : m ≤ 255) :
    ({ q with counter := q.counter.set o m } : Queue).Fits n := by
  refine ⟨h.total, fun p => ?_, h.credit⟩
  rw [PerDirect.get_set_ite]
  split_ifs
  · exact ⟨h1, h2⟩
  · exact h.counters p

/-! ### The operations on the queue -/

theorem State.noPlace_total {o : Origin} (h : s.noPlace o = none) : s.queue.total < 24 := by
  have h24 : Config.maxTickets = 24 := rfl
  unfold State.noPlace at h
  split_ifs at h
  omega

/-- A ticket joins an order where the queue has room. -/
theorem State.enqueue_fits (k : Ticket) {n : Nat} (h : s.queue.Fits (n + 1)) : (s.enqueue k).queue.Fits n := by
  rw [State.enqueue, (s.setQueued_fields _ _).1]
  exact h.setQueued _ _ (by simp only [State.queuedOf, List.length_append, List.length_singleton]; omega)

theorem State.posted_fits (i : Nat) (e : Entry) {n : Nat} (h : s.queue.Fits (n + 1)) : (s.posted i e).queue.Fits n := by
  have hq : (s.posted i e).queue = (s.enqueue (s.newTicket .p i e.request)).queue := by simp [State.posted]
  rw [hq]
  exact State.enqueue_fits _ h

theorem State.postEach_fits (l : List DueMark) : ∀ s : State, s.queue.Fits 0 → (State.postEach l s).queue.Fits 0 := by
  induction l with
  | nil => exact fun s h => h
  | cons m ms ih =>
    intro s h
    unfold State.postEach
    split
    · exact ih s h
    · rename_i e _
      unfold State.post
      cases hn : s.noPlace .p with
      | some status => exact h
      | none =>
        have := State.noPlace_total hn
        exact ih _ (State.posted_fits _ _ ⟨by omega, h.counters, h.credit⟩)

theorem State.departed_fits (h : s.queue.Fits 0) : s.departed.queue.Fits 0 := State.postEach_fits s.dueMarks s h

theorem State.departed_active : s.departed.queue.active = s.queue.active := by
  obtain ⟨⟨posts, hq⟩, -⟩ := s.departed_effect
  rw [hq]

/-- The outcome of a direct ticket that has left its place fits in that place. -/
theorem State.handOver_fits (o : Direct) (k : Ticket) (r : Result) (h : s.queue.Fits 1) :
    (s.handOver o k r).queue.Fits 0 := by
  unfold State.handOver
  generalize hs : (if k.waited then s.deliverCopy o (k.record r s.time) else s) = s1
  have h1 : s1.queue.Fits 1 := by
    rw [← hs]
    split_ifs
    · simpa using h
    · exact h
  dsimp only
  split_ifs
  · exact State.departed_fits (by simpa using h1.mono (Nat.zero_le 1))
  · simpa using h1.setWaiting o _ (by simp [State.waitingOf])

/-- A ticket that has left its place ends: what it leaves fits, and the ACTIVE ticket is as it was. -/
theorem State.finish_fits (q : Origin) (k : Ticket) (r : Result) (h : s.queue.Fits 1) :
    (s.finish q k r).queue.Fits 0 ∧ (s.finish q k r).queue.active = s.queue.active := by
  unfold State.finish
  split_ifs
  · exact ⟨State.departed_fits (h.mono (Nat.zero_le 1)), State.departed_active⟩
  · cases originDirect q with
    | some o => exact ⟨State.handOver_fits o k r h, (s.handOver_effect o k r).2.2.2.1⟩
    | none => exact ⟨State.departed_fits (by simpa using h.mono (Nat.zero_le 1)), by simp [State.departed_active]⟩

/-- The list without a ticket that it holds is shorter by one. -/
theorem length_without (n : Nat) (l : List Ticket) (h : ∃ k ∈ l, k.number = n) : (without n l).length + 1 = l.length := by
  induction l with
  | nil => simp at h
  | cons k ks ih =>
    unfold without
    split_ifs with hk
    · rfl
    · obtain ⟨j, hj, hn⟩ := h
      rcases List.mem_cons.1 hj with rfl | hj
      · exact absurd hn hk
      · simp [← ih ⟨j, hj, hn⟩]

/-- A QUEUED ticket taken out leaves its place free. -/
theorem State.dequeue_fits (o : Origin) (n : Nat) (h : s.queue.Fits 0) (hk : ∃ k ∈ s.queuedOf o, k.number = n) :
    (s.dequeue o n).queue.Fits 1 := by
  rw [State.dequeue, (s.setQueued_fields _ _).1]
  exact h.setQueued _ _ (by have := length_without n _ hk; simp only [State.queuedOf] at this ⊢; omega)

theorem State.dequeue_active (o : Origin) (n : Nat) : (s.dequeue o n).queue.active = s.queue.active := by
  simp [State.dequeue]

/-- A lost ticket ends in its place, or returns to it. -/
theorem State.lost_fits (k : Ticket) (h : s.queue.Fits 1) :
    (s.lost k).queue.Fits 0 ∧ (s.lost k).queue.active = s.queue.active := by
  unfold State.lost
  split_ifs
  · exact State.finish_fits _ _ _ h
  · exact State.finish_fits _ _ _ h
  · exact State.finish_fits _ _ _ h
  · exact State.finish_fits _ _ _ h
  · rw [State.requeue, (s.setQueued_fields _ _).1]
    exact ⟨h.setQueued _ _ (by simp [State.queuedOf]), rfl⟩

/-! ### Ticket numbers (R3) -/

theorem nextNumber_range (n : Nat) (h1 : 1 ≤ n) (h2 : n ≤ 255) : 1 ≤ nextNumber n ∧ nextNumber n ≤ 255 := by
  unfold nextNumber
  split_ifs <;> omega

theorem State.firstFree_range (o : Direct) (k : Nat) : ∀ n, 1 ≤ n → n ≤ 255 →
    1 ≤ s.firstFree o n k ∧ s.firstFree o n k ≤ 255 := by
  induction k with
  | zero => exact fun n h1 h2 => ⟨h1, h2⟩
  | succ k ih =>
    intro n h1 h2
    unfold State.firstFree
    split_ifs
    · obtain ⟨h3, h4⟩ := nextNumber_range n h1 h2
      exact ih _ h3 h4
    · exact ⟨h1, h2⟩

theorem State.admitTicket_fits (o : Direct) (r : Request) (w : Bool) {n : Nat} (h : s.queue.Fits (n + 1)) :
    (s.admitTicket o r w).queue.Fits n ∧ (s.admitTicket o r w).queue.active = s.queue.active := by
  obtain ⟨h1, h2⟩ := h.counters o
  obtain ⟨h3, h4⟩ := State.firstFree_range (s := s) o 255 _ h1 h2
  obtain ⟨h5, h6⟩ := nextNumber_range _ h3 h4
  refine ⟨State.enqueue_fits _ ?_, by simp [State.admitTicket, State.enqueue]⟩
  rw [(s.setQueue_fields _).1]
  exact h.setCounter o _ h5 h6

/-! ### The engine's place -/

/-- The engine agrees with the monitor, and with the queue on whether there is an ACTIVE ticket (R29, R41, R63, R67). -/
structure EngineAgrees (e : Engine) (m : Monitor) (active : Bool) : Prop where
  held : e.state.inTransfer = active
  own : e.state.inTransfer = true → m.state = .busyOwn ∧ m.free = none
  lines : e.linesRight = true
  mark : e.markRight = true
  pulses : e.pulsesRight = true

/-- The engine, the monitor and the queue agree. -/
structure State.BusOk (s : State) : Prop where
  queue : s.queue.Fits 0
  engine : EngineAgrees s.engine s.monitor s.queue.active.isSome

theorem State.busWf_iff (s : State) : s.busWf = true ↔ s.BusOk := by
  simp only [State.busWf, State.ticketHeld, Bool.and_eq_true, Queue.wf_iff, decide_eq_true_eq, Bool.or_eq_true,
    Bool.not_eq_true', Option.isNone_iff_eq_none]
  constructor
  · rintro ⟨⟨⟨⟨hq, hh, ho⟩, hl⟩, hm⟩, hp⟩
    exact ⟨hq, hh, fun hi => ho.resolve_left (by simp [hi]), hl, hm, hp⟩
  · rintro ⟨hq, hh, ho, hl, hm, hp⟩
    refine ⟨⟨⟨⟨hq, hh, ?_⟩, hl⟩, hm⟩, hp⟩
    cases hi : s.engine.state.inTransfer
    · exact .inl rfl
    · exact .inr (ho hi)

variable {e : Engine} {m m' : Monitor} {b : Bool}

theorem Engine.pulses_le (h : e.pulsesRight = true) : e.pulses ≤ 9 := by
  unfold Engine.pulsesRight at h
  split at h <;> simp only [decide_eq_true_eq] at h <;> omega

/-- With no ticket on the bus the monitor moves as it will. -/
theorem EngineAgrees.monitor_free (h : EngineAgrees e m false) (m' : Monitor) : EngineAgrees e m' false :=
  ⟨h.held, fun hi => by simp [h.held] at hi, h.lines, h.mark, h.pulses⟩

/-- The monitor's levels and counts are not the engine's matter. -/
theorem EngineAgrees.monitor_congr (h : EngineAgrees e m b) (h1 : m'.state = m.state) (h2 : m'.free = m.free) :
    EngineAgrees e m' b :=
  ⟨h.held, by rw [h1, h2]; exact h.own, h.lines, h.mark, h.pulses⟩

/-- The engine may take a transfer state only with a ticket, in BUSY_OWN. -/
theorem EngineAgrees.enter (h : EngineAgrees e m b) (h0 : e.state = .idle ∨ e.state.inTransfer = true) {e' : Engine}
    (he : e'.state.inTransfer = true) (h1 : e'.busLost = e.busLost) (h2 : e'.phase = e.phase)
    (h3 : e'.pulses = e.pulses) (hm : m'.state = .busyOwn) (hf : m'.free = none) : EngineAgrees e' m' true := by
  have hb : e.busLost = false := by
    have := h.mark
    rcases h0 with h0 | h0
    · simpa [Engine.markRight, h0] using this
    · cases hs : e.state <;> simp_all [Engine.markRight, EngineState.inTransfer]
  refine ⟨he, fun _ => ⟨hm, hf⟩, ?_, ?_, ?_⟩
  · cases hs : e'.state <;> simp_all [Engine.linesRight, EngineState.inTransfer]
  · cases hs : e'.state <;> simp_all [Engine.markRight, EngineState.inTransfer]
  · simpa [Engine.pulsesRight, h2, h3] using h.pulses

/-- The engine lets go in IDLE or BACKOFF, the bus-lost mark clear. -/
theorem EngineAgrees.letGo (st : EngineState) (hst : st = .idle ∨ st = .backoff) (hb : e.busLost = false)
    (hp : e.pulses ≤ 9) : EngineAgrees (e.letGo st) m false := by
  rcases hst with rfl | rfl <;> constructor <;>
    simp [Engine.letGo, EngineState.inTransfer, Engine.linesRight, Engine.markRight, Engine.pulsesRight, hb, hp]

/-- In RECOVERY the pulses alone are bounded. -/
theorem EngineAgrees.recovery (hs : e.state = .recovery) (hp : e.pulsesRight = true) : EngineAgrees e m false :=
  ⟨by simp [hs, EngineState.inTransfer], by simp [hs, EngineState.inTransfer], by simp [Engine.linesRight, hs],
    by simp [Engine.markRight, hs], hp⟩

/-- The bus-lost mark is clear in a transfer and in BACKOFF. -/
theorem EngineAgrees.busLost_eq_false (h : EngineAgrees e m b) (hs : e.state.inTransfer = true ∨ e.state = .backoff) :
    e.busLost = false := by
  have := h.mark
  cases hst : e.state <;> simp_all [Engine.markRight, EngineState.inTransfer]

/-! ### The operations on the bus -/

theorem State.BusOk.portFree : PortFree State.BusOk where
  congr s t hq he hm _ _ _ h := ⟨by rw [hq]; exact h.queue, by rw [hq, he, hm]; exact h.engine⟩
  unwait s o n h := by
    refine ⟨?_, by simpa [Queue.unwait] using h.engine⟩
    have h1 := h.queue.setQueued (directOrigin o)
      ((s.queue.queued.get (directOrigin o)).map (·.unwait n)) (m := 0) (by simp)
    exact h1.setActive (s.queue.active.map fun k => if k.origin = directOrigin o then k.unwait n else k) (by simp)

/-- A change of the queue alone keeps the agreement where the queue fits and holds an ACTIVE ticket as before. -/
theorem State.BusOk.of_queue (h : s.BusOk) (he : t.engine = s.engine) (hm : t.monitor = s.monitor)
    (hq : t.queue.Fits 0) (ha : t.queue.active.isSome = s.queue.active.isSome) : t.BusOk :=
  ⟨hq, by rw [he, hm, ha]; exact h.engine⟩

/-- A change of neither. -/
theorem State.BusOk.same (h : s.BusOk) (he : t.engine = s.engine) (hm : t.monitor = s.monitor)
    (hq : t.queue = s.queue) : t.BusOk :=
  h.of_queue he hm (by rw [hq]; exact h.queue) (by rw [hq])

theorem State.BusOk.departed (h : s.BusOk) : s.departed.BusOk :=
  h.of_queue (by simp) (by simp) (State.departed_fits h.queue) (by rw [State.departed_active])

theorem State.BusOk.retryPosts (h : s.BusOk) : s.retryPosts.BusOk := h.departed

theorem State.BusOk.admitTicket (h : s.BusOk) (o : Direct) (r : Request) (w : Bool) (hp : s.queue.total < 24) :
    (s.admitTicket o r w).BusOk := by
  obtain ⟨hf, ha⟩ := State.admitTicket_fits (s := s) o r w (n := 0) ⟨by omega, h.queue.counters, h.queue.credit⟩
  exact h.of_queue (by simp) (by simp) hf (by rw [ha])

theorem State.BusOk.posted (h : s.BusOk) (i : Nat) (x : Entry) (hp : s.queue.total < 24) : (s.posted i x).BusOk :=
  h.of_queue (by simp) (by simp) (State.posted_fits i x ⟨by omega, h.queue.counters, h.queue.credit⟩)
    (by simp [State.posted_queue])

theorem State.BusOk.endQueued (h : s.BusOk) (q : Origin) (k : Ticket) (r : Result) (hk : k ∈ s.queuedOf q) :
    (s.endQueued q k r).BusOk := by
  obtain ⟨hf, ha⟩ := State.finish_fits q k.clearProgress r (State.dequeue_fits q k.number h.queue ⟨k, hk, rfl⟩)
  exact h.of_queue (by simp) (by simp) hf (by rw [State.endQueued, ha, State.dequeue_active])

/-- The ACTIVE ticket ends and the engine is in no transfer. -/
theorem State.BusOk.endActive {k : Ticket} (hq : s.queue.Fits 0) (ha : s.queue.active = some k)
    (he : EngineAgrees s.engine s.monitor false) (k' : Ticket) (r : Result) : (s.endActive k' r).BusOk := by
  have h1 : (s.setActive none).queue.Fits 1 := by simpa using hq.clearActive ha
  obtain ⟨hf, hact⟩ := State.finish_fits k'.origin k' r h1
  refine ⟨hf, ?_⟩
  have hn : (s.endActive k' r).queue.active = none := by rw [State.endActive, hact]; simp
  rw [hn]
  simpa using he

/-- The engine moves on to another phase with its ticket. -/
theorem State.BusOk.enterPhase {k : Ticket} (h : s.BusOk) (ha : s.queue.active = some k) (st : EngineState)
    (hst : st.inTransfer = true) (bit : Option Nat) (f : Option Result) (k' : Ticket) :
    (s.enterPhase st bit f k').BusOk := by
  have hi : s.engine.state.inTransfer = true := by rw [h.engine.held, ha]; rfl
  obtain ⟨hm, hf⟩ := h.engine.own hi
  refine ⟨?_, ?_⟩
  · simpa [State.enterPhase] using h.queue.setActive (some k') (by simp [ha])
  · simp only [State.enterPhase, State.see_frame, State.setEngine_fields, State.setActive_fields, Option.isSome_some]
    exact h.engine.enter (.inr hi) hst rfl rfl rfl hm hf

end Sys2Proof.Machine


namespace Sys2Proof.Machine

variable {s t : State} {e : Engine} {m m' : Monitor} {b : Bool}

/-! ### The monitor's moves -/

/-- Levels seen leave the monitor's state and its free time. -/
theorem State.see_state_free (s : State) (scl sda : Bool) :
    (s.see scl sda).monitor.state = s.monitor.state ∧ (s.see scl sda).monitor.free = s.monitor.free := ⟨rfl, rfl⟩

theorem State.BusOk.see (h : s.BusOk) (scl sda : Bool) : (s.see scl sda).BusOk :=
  ⟨by simpa using h.queue, by simpa using h.engine.monitor_congr (s.see_state_free scl sda).1 (s.see_state_free scl sda).2⟩

/-- With the engine in no transfer the monitor moves as it will. -/
theorem State.BusOk.of_monitor (h : s.BusOk) (he : t.engine = s.engine) (hq : t.queue = s.queue)
    (hi : s.engine.state.inTransfer = false) : t.BusOk := by
  have ha : s.queue.active.isSome = false := by rw [← h.engine.held, hi]
  have hE := h.engine
  rw [ha] at hE
  exact ⟨by rw [hq]; exact h.queue, by rw [he, hq, ha]; exact hE.monitor_free _⟩

/-- A fall that is no START is the monitor's in FREE, where the engine is in no transfer. -/
theorem State.BusOk.lineFalls (h : s.BusOk) : s.lineFalls.BusOk := by
  cases hi : s.engine.state.inTransfer
  · exact h.of_monitor (by simp) (by simp) hi
  · obtain ⟨hm, hf⟩ := h.engine.own hi
    refine ⟨by simpa using h.queue, ?_⟩
    have hl : s.lineFalls = s.setFreeTime none := by unfold State.lineFalls; rw [if_neg]; simp [hm, hf]
    rw [hl]
    simpa using h.engine.monitor_congr (m' := { s.monitor with free := none }) rfl hf.symm

theorem State.BusOk.condSeen (h : s.BusOk) (c : Cond) (hi : s.engine.state.inTransfer = false) : (s.condSeen c).BusOk :=
  h.of_monitor (by simp) (by simp) hi

/-! ### FREE (R40, R50, R69) -/

theorem State.busBack_engine (s : State) : s.busBack.engine = { s.engine with busLost := false } := by
  unfold State.busBack
  split_ifs with hb
  · simp
  · rw [← Bool.eq_false_of_not_eq_true hb]

/-- The engine hears of FREE: it leaves BACKOFF and STUCK. -/
theorem State.BusOk.engineHearsFree (h : s.BusOk) : s.engineHearsFree.BusOk := by
  have hp := Engine.pulses_le h.engine.pulses
  unfold State.engineHearsFree
  split
  · rename_i hs
    have ha : s.queue.active.isSome = false := by rw [← h.engine.held, hs]; rfl
    exact ⟨by simpa using h.queue, by
      simpa [ha] using EngineAgrees.letGo .idle (.inl rfl) (h.engine.busLost_eq_false (.inr hs)) hp⟩
  · rename_i hs
    have ha : s.queue.active.isSome = false := by rw [← h.engine.held, hs]; rfl
    refine ⟨by simpa using h.queue, ?_⟩
    rw [State.busBack_engine]
    simp only [State.busBack_frame, State.setEngine_fields, ha]
    exact EngineAgrees.letGo (e := { s.engine with busLost := false }) .idle (.inl rfl) rfl hp
  · exact h

/-- The bus becomes FREE where a free time has run or the engine is in no transfer. -/
theorem State.BusOk.becomeFree (h : s.BusOk) (hi : s.engine.state.inTransfer = false) : s.becomeFree.BusOk := by
  unfold State.becomeFree
  split_ifs
  · exact h.of_monitor (by simp) (by simp) hi
  · exact State.BusOk.engineHearsFree (h.of_monitor (by simp) (by simp) hi)

/-! ### Recovery (R62 to R69) -/

theorem State.beginPulse_agrees (hs : s.engine.state = .recovery) (hp : s.engine.pulses ≤ 8) :
    EngineAgrees s.beginPulse.engine s.beginPulse.monitor false :=
  EngineAgrees.recovery (by simp [State.beginPulse, Engine.startWait, hs])
    (by simp [State.beginPulse, Engine.startWait, Engine.pulsesRight, hp])

theorem State.beginRecoveryStop_agrees (hs : s.engine.state = .recovery) (hp : s.engine.pulses ≤ 9) :
    EngineAgrees s.beginRecoveryStop.engine s.beginRecoveryStop.monitor false :=
  EngineAgrees.recovery (by simp [State.beginRecoveryStop, Engine.startWait, hs])
    (by simp [State.beginRecoveryStop, Engine.startWait, Engine.pulsesRight, hp])

theorem State.lookAtData_agrees (hs : s.engine.state = .recovery) (hp : s.engine.pulses ≤ 8) :
    EngineAgrees s.lookAtData.engine s.lookAtData.monitor false := by
  unfold State.lookAtData
  split_ifs
  · exact State.beginRecoveryStop_agrees hs (by omega)
  · exact State.beginPulse_agrees hs hp

/-- An attempt begins from any place of the engine. -/
theorem State.enterRecovery_agrees (s : State) (scl sda : Bool) :
    EngineAgrees (s.enterRecovery scl sda).engine (s.enterRecovery scl sda).monitor false := by
  unfold State.enterRecovery
  dsimp only
  split_ifs
  · exact State.lookAtData_agrees (by simp [Engine.letGo]) (by simp)
  · exact EngineAgrees.recovery (by simp [Engine.startWait, Engine.letGo])
      (by simp [Engine.startWait, Engine.letGo, Engine.pulsesRight])

theorem State.enterStuck_engine (s : State) : s.enterStuck.engine =
    { s.engine.letGo .stuck with retry := some (startCount s.settings.retryInterval.toNat), busLost := true } := by
  unfold State.enterStuck
  dsimp only
  split_ifs <;> simp

/-- The attempt fails with at most nine pulses. -/
theorem State.enterStuck_agrees (hp : s.engine.pulses ≤ 9) :
    EngineAgrees s.enterStuck.engine s.enterStuck.monitor false := by
  rw [State.enterStuck_engine]
  constructor <;>
    simp [Engine.letGo, EngineState.inTransfer, Engine.linesRight, Engine.markRight, Engine.pulsesRight, hp]

/-- An engine that agrees with the monitor on no ticket, and a queue without one. -/
theorem State.BusOk.of_agrees (h : s.BusOk) (hi : s.engine.state.inTransfer = false) (hq : t.queue = s.queue)
    (ht : EngineAgrees t.engine t.monitor false) : t.BusOk :=
  ⟨by rw [hq]; exact h.queue, by rw [hq, ← h.engine.held, hi]; exact ht⟩

theorem State.recovering_iff (p : RecoveryPhase) :
    s.recovering p = true ↔ s.engine.state = .recovery ∧ s.engine.phase = some p := by
  simp [State.recovering]

theorem EngineState.recovery_inTransfer : EngineState.recovery.inTransfer = false := rfl

theorem State.BusOk.recoveryClockRise (h : s.BusOk) (sda : Bool) (hr : s.recovering .waitClock = true) :
    ((s.stopWait.see true sda).lookAtData).BusOk := by
  obtain ⟨hs, hph⟩ := (State.recovering_iff _).1 hr
  have hp : s.engine.pulses = 0 := by simpa [Engine.pulsesRight, hph] using h.engine.pulses
  exact h.of_agrees (by rw [hs]; rfl) (by simp [State.stopWait])
    (State.lookAtData_agrees (by simp [State.stopWait, hs]) (by simp [State.stopWait, hp]))

theorem State.BusOk.recoveryPulse (h : s.BusOk) (sda : Bool) (hr : s.recovering .pulse = true) :
    ((s.lineFalls.countPulse.see true sda).afterPulse sda).BusOk := by
  obtain ⟨hs, hph⟩ := (State.recovering_iff _).1 hr
  have hp : s.engine.pulses ≤ 8 := by simpa [Engine.pulsesRight, hph] using h.engine.pulses
  have hn : (s.lineFalls.countPulse.see true sda).engine.pulses = s.engine.pulses + 1 := by simp [State.countPulse]
  have hst : (s.lineFalls.countPulse.see true sda).engine.state = .recovery := by simp [State.countPulse, hs]
  have hi : s.engine.state.inTransfer = false := by rw [hs]; rfl
  unfold State.afterPulse
  split_ifs with h1 h2
  · exact h.of_agrees hi (by simp [State.countPulse]) (State.beginRecoveryStop_agrees hst (by omega))
  · exact h.of_agrees hi (by simp [State.countPulse]) (State.beginPulse_agrees hst (by omega))
  · exact h.of_agrees hi (by simp [State.countPulse]) (State.enterStuck_agrees (by omega))

theorem State.BusOk.attemptRecovery (h : s.BusOk) (hi : s.engine.state.inTransfer = false) : s.attemptRecovery.BusOk :=
  h.of_agrees hi (by simp [State.attemptRecovery]) (State.enterRecovery_agrees _ _ _)

theorem State.BusOk.completeRecovery (h : s.BusOk) (hs : s.engine.state = .recovery) : s.completeRecovery.BusOk := by
  refine h.of_agrees (by rw [hs]; rfl) (by simp [State.completeRecovery]) ?_
  rw [State.completeRecovery, State.busBack_engine]
  simp only [State.setFreeTime_fields, State.see_frame, State.setEngine_fields]
  exact EngineAgrees.letGo (e := { s.engine with busLost := false }) .idle (.inl rfl) rfl
    (Engine.pulses_le h.engine.pulses)

theorem State.BusOk.enterStuck (h : s.BusOk) (hs : s.engine.state = .recovery) : s.enterStuck.BusOk :=
  h.of_agrees (by rw [hs]; rfl) (by simp) (State.enterStuck_agrees (Engine.pulses_le h.engine.pulses))

theorem State.BusOk.heldDataExpires (h : s.BusOk) : s.heldDataExpires.BusOk := by
  unfold State.heldDataExpires
  split_ifs with hs
  · exact h.of_agrees (by rw [hs]; rfl) (by simp [State.stopHeld]) (State.enterRecovery_agrees _ _ _)
  · exact ⟨by simpa [State.stopHeld] using h.queue, by
      simpa [State.stopHeld] using h.engine.monitor_congr (m' := { s.monitor with held := none }) rfl rfl⟩

theorem State.BusOk.busRecover (h : s.BusOk) : s.busRecover.1.BusOk := by
  unfold State.busRecover
  split
  · rename_i hs
    split
    · exact h
    · exact h
    · have h1 : s.stopHeld.BusOk := h.of_monitor (by simp [State.stopHeld]) (by simp [State.stopHeld]) (by rw [hs]; rfl)
      exact h1.attemptRecovery (by simp only [State.stopHeld, State.setMonitor_fields, hs]; rfl)
    · exact h
  · exact h
  · exact h
  · exact h
  · exact h
  · exact h
  · exact h
  · exact h
  · rename_i hs
    exact h.attemptRecovery (by rw [hs]; rfl)

/-! ### A ticket's way on the bus -/

/-- The ticket of the engine in a transfer is the ACTIVE one. -/
theorem State.inTransfer_eq_some {k : Ticket} :
    s.inTransfer = some k ↔ s.engine.state.inTransfer = true ∧ s.queue.active = some k := by
  unfold State.inTransfer
  split_ifs with h <;> simp [h]

theorem State.running_eq_some {k : Ticket} {st : EngineState} (h : s.running st = some k) :
    s.engine.state = st ∧ s.queue.active = some k := by
  unfold State.running at h
  split_ifs at h with hs
  exact ⟨hs, h⟩

theorem State.BusOk.toStopping {k : Ticket} (h : s.BusOk) (ha : s.queue.active = some k) (r : Result) (k' : Ticket) :
    (s.toStopping r k').BusOk := h.enterPhase ha .stopping rfl none (some r) k'

theorem State.BusOk.afterAddress {k : Ticket} (h : s.BusOk) (ha : s.queue.active = some k) (ack : Bool) :
    (s.afterAddress k ack).BusOk := by
  unfold State.afterAddress
  split
  · split_ifs
    · exact h.enterPhase ha _ rfl _ _ _
    all_goals exact h.toStopping ha _ _
  · exact h.toStopping ha _ _
  all_goals
    split_ifs
    · exact h.toStopping ha _ _
    · exact h.enterPhase ha _ rfl _ _ _
    · exact h.toStopping ha _ _

theorem State.BusOk.afterWriteByte {k : Ticket} (h : s.BusOk) (ha : s.queue.active = some k) (ack : Bool) :
    (s.afterWriteByte k ack).BusOk := by
  unfold State.afterWriteByte State.afterAckedWrite
  split_ifs
  · exact h.toStopping ha _ _
  · exact h.enterPhase ha _ rfl _ _ _
  · exact h.enterPhase ha _ rfl _ _ _
  all_goals exact h.toStopping ha _ _

theorem State.BusOk.afterRestart {k : Ticket} (h : s.BusOk) (ha : s.queue.active = some k) (ack : Bool) :
    (s.afterRestart k ack).BusOk := by
  unfold State.afterRestart
  split_ifs
  · exact h.enterPhase ha _ rfl _ _ _
  all_goals exact h.toStopping ha _ _

theorem State.BusOk.afterReadByte {k : Ticket} (h : s.BusOk) (ha : s.queue.active = some k) (k' : Ticket) :
    (s.afterReadByte k').BusOk := by
  unfold State.afterReadByte
  split_ifs
  · exact h.toStopping ha _ _
  · exact h.enterPhase ha _ rfl _ _ _
  · exact h.toStopping ha _ _

/-- The engine in a transfer can let go in IDLE or BACKOFF. -/
theorem State.BusOk.letGo_agrees (h : s.BusOk) (hi : s.engine.state.inTransfer = true) (st : EngineState)
    (hst : st = .idle ∨ st = .backoff) (m : Monitor) : EngineAgrees (s.engine.letGo st) m false :=
  EngineAgrees.letGo st hst (h.engine.busLost_eq_false (.inl hi)) (Engine.pulses_le h.engine.pulses)

theorem State.BusOk.completeStop {k : Ticket} (h : s.BusOk) (hi : s.engine.state.inTransfer = true)
    (ha : s.queue.active = some k) (r : Result) : (s.completeStop k r).BusOk :=
  State.BusOk.endActive (k := k) (by simpa [State.ownStop] using h.queue) (by simpa [State.ownStop] using ha)
    (by simpa [State.ownStop] using h.letGo_agrees hi .idle (.inl rfl) _) k r

theorem State.BusOk.misplaced {k : Ticket} (h : s.BusOk) (hi : s.engine.state.inTransfer = true)
    (ha : s.queue.active = some k) (c : Cond) (cut : Sampled) : (s.misplaced c cut k).BusOk :=
  State.BusOk.endActive (k := k) (by simpa using h.queue) (by simpa using ha)
    (by simpa using h.letGo_agrees hi .idle (.inl rfl) _) _ _

theorem State.BusOk.timeOut {k : Ticket} (h : s.BusOk) (ha : s.queue.active = some k) (cut : Sampled) (r : Result)
    (scl sda : Bool) : (s.timeOut k cut r scl sda).BusOk := by
  have h1 : (s.setActive none).queue.Fits 1 := by simpa using h.queue.clearActive ha
  obtain ⟨hf, hact⟩ := State.finish_fits (k.withCut cut).origin (k.withCut cut) r h1
  refine ⟨by simpa [State.timeOut, State.endActive] using hf, ?_⟩
  have hn : (s.timeOut k cut r scl sda).queue.active = none := by
    rw [State.timeOut, (State.enterRecovery_frame _ scl sda).2.2.2.2.2.1, State.endActive, hact]; simp
  rw [hn]
  exact State.enterRecovery_agrees _ _ _

theorem State.BusOk.loseArbitration {k : Ticket} (h : s.BusOk) (hi : s.engine.state.inTransfer = true)
    (ha : s.queue.active = some k) (cut : Sampled) : (s.loseArbitration k cut).BusOk := by
  unfold State.loseArbitration
  generalize hu : ((((s.setEngine (s.engine.letGo .backoff)).setFreeTime none).monitorTo .busyForeign).see true false)
    = u
  have hq : u.queue = s.queue := by rw [← hu]; simp
  have he : u.engine = s.engine.letGo .backoff := by rw [← hu]; simp
  have h1 : u.giveBack.queue.Fits 1 := by
    have hc := h.queue.clearActive ha
    have hcr := h.queue.credit
    simp only [Queue.activeCount, ha] at hcr
    have hg : u.giveBack.queue = { s.queue with credit := s.queue.credit + 1, active := none } := by
      rw [← hq]; simp [State.giveBack]
    rw [hg]
    exact ⟨hc.total, hc.counters, by simp [Queue.activeCount] at hcr ⊢; omega⟩
  obtain ⟨hf, hact⟩ := State.lost_fits (k.withCut cut) h1
  refine ⟨hf, ?_⟩
  rw [hact]
  simp only [State.lost_frame, State.giveBack, State.setQueue_fields, he]
  exact h.letGo_agrees hi .backoff (.inr rfl) _

/-- A condition that the engine did not make. -/
theorem State.BusOk.foreignCondition (h : s.BusOk) (c : Cond) : (s.foreignCondition c).BusOk := by
  unfold State.foreignCondition
  split
  · rename_i k hk
    obtain ⟨hi, ha⟩ := State.inTransfer_eq_some.1 hk
    exact h.misplaced hi ha c .nothing
  · rename_i hn
    refine h.condSeen c ?_
    cases hi : s.engine.state.inTransfer
    · rfl
    · have := h.engine.held
      simp only [State.inTransfer, hi, if_true] at hn
      simp [hi, hn] at this

/-! ### The start (R24, R42) -/

/-- The ticket a choice names is the origin's eligible one. -/
theorem State.rotate_some (l : List Origin) {c : Choice} (h : s.rotate l = some c) :
    s.eligible c.origin = some c.ticket ∧ c.credit = s.settings.weight c.origin - 1 := by
  induction l with
  | nil => cases h
  | cons o os ih =>
    unfold State.rotate at h
    split at h
    · rename_i k hk
      cases h
      exact ⟨hk, rfl⟩
    · exact ih h

/-- A choice names an eligible ticket, and uses a credit that was there or a new one (R24). -/
theorem State.choose_some {c : Choice} (h : s.choose = some c) :
    s.eligible c.origin = some c.ticket ∧
      (c.credit + 1 = s.queue.credit ∨ c.credit = s.settings.weight c.origin - 1) := by
  unfold State.choose at h
  split at h
  · rename_i k hk
    split_ifs at h with hc
    · cases h
      exact ⟨hk, .inl (by dsimp only; omega)⟩
    · obtain ⟨h1, h2⟩ := s.rotate_some _ h
      exact ⟨h1, .inr h2⟩
  · obtain ⟨h1, h2⟩ := s.rotate_some _ h
    exact ⟨h1, .inr h2⟩

/-- An eligible ticket is QUEUED in its origin's order, and not deferred (R22). -/
theorem State.eligible_some {o : Origin} {k : Ticket} (h : s.eligible o = some k) :
    k ∈ s.queuedOf o ∧ s.deferred k = false := by
  unfold State.eligible at h
  split at h
  · exact ⟨List.mem_of_find?_eq_some h, by simpa using List.find?_some h⟩
  · split at h
    · rename_i x xs hx
      split_ifs at h with hd
      cases h
      exact ⟨by rw [hx]; simp, by simpa using hd⟩
    · cases h

/-- A weight is at most 4 (R177). -/
theorem Settings.weight_le {x : Settings} (h : x.wf = true) (o : Origin) : x.weight o ≤ 4 := by
  simp only [Settings.wf, settingInRange, bytesBetween4, bytesBetween3, between, Bool.and_eq_true,
    decide_eq_true_eq] at h
  obtain ⟨⟨⟨⟨-, ⟨⟨⟨-, ha⟩, -, hb⟩, -, hc⟩, -, hp⟩, -⟩, -⟩, -⟩ := h
  cases o <;> simpa [Settings.weight, originIndex]

theorem State.takeChoice_queue (s : State) (c : Choice) : (s.takeChoice c).queue =
    { s.queue with
      queued := s.queue.queued.set c.origin (without c.ticket.number (s.queuedOf c.origin))
      current := c.origin, credit := c.credit } := by
  simp [State.takeChoice, State.dequeue]

/-- The queue at a start: the ticket from its order to the bus (R9). -/
theorem State.startTicket_queue (s : State) (c : Choice) : (s.startTicket c).queue =
    { s.queue with
      queued := s.queue.queued.set c.origin (without c.ticket.number (s.queuedOf c.origin))
      active := some c.ticket.clearProgress, current := c.origin, credit := c.credit } := by
  simp [State.startTicket, State.enterPhase, State.takeChoice_queue]

theorem State.canStart_iff : s.canStart = true ↔ s.engine.state = .idle ∧ s.monitor.state = .free := by
  simp [State.canStart]

theorem State.BusOk.startTicket (h : s.BusOk) (hw : s.settings.wf = true) {c : Choice} (hc : s.choose = some c)
    (hs : s.engine.state = .idle) : (s.startTicket c).BusOk := by
  obtain ⟨hel, hcr⟩ := State.choose_some hc
  have hm := (State.eligible_some hel).1
  have hn : s.queue.active = none := by
    have := h.engine.held
    simpa [hs, EngineState.inTransfer] using this.symm
  refine ⟨?_, ?_⟩
  · have h1 := State.dequeue_fits c.origin c.ticket.number h.queue ⟨_, hm, rfl⟩
    rw [State.dequeue, (s.setQueued_fields _ _).1] at h1
    rw [State.startTicket_queue]
    have ht := h1.total
    have hwt := Settings.weight_le hw c.origin
    have hcq := h.queue.credit
    refine ⟨?_, h.queue.counters, ?_⟩
    · simp only [Queue.total, Queue.activeCount, hn] at ht ⊢
      simp at ht ⊢
      omega
    · simp [Queue.activeCount]
      omega
  · have hmon : (s.startTicket c).monitor.state = .busyOwn ∧ (s.startTicket c).monitor.free = none := ⟨rfl, rfl⟩
    rw [State.startTicket_queue]
    exact h.engine.enter (.inl hs) rfl
      (by simp [State.startTicket, State.enterPhase, State.takeChoice, Engine.recordSettings])
      (by simp [State.startTicket, State.enterPhase, State.takeChoice, Engine.recordSettings])
      (by simp [State.startTicket, State.enterPhase, State.takeChoice, Engine.recordSettings])
      hmon.1 hmon.2

/-! ### Changes of the lines -/

/-- A fall of D-SCL in a transfer moves the bit and the drives, and leaves the engine's state. -/
theorem EngineAgrees.drives (h : EngineAgrees e m b) (hi : e.state.inTransfer = true) (bit : Option Nat)
    (scl sda : Drive) : EngineAgrees { e with bit := bit, sclDrive := scl, sdaDrive := sda } m b :=
  ⟨h.held, h.own, by cases hs : e.state <;> simp_all [Engine.linesRight, EngineState.inTransfer], h.mark, h.pulses⟩

theorem EngineAgrees.releaseClock (h : EngineAgrees e m b) (wait : Option Count) :
    EngineAgrees { e with sclDrive := .released, wait := wait } m b :=
  ⟨h.held, h.own, by have := h.lines; cases hs : e.state <;> simp_all [Engine.linesRight], h.mark, h.pulses⟩

theorem State.BusOk.sclFalls (h : s.BusOk) : s.sclFalls.BusOk := by
  unfold State.sclFalls
  split
  · rename_i k hk
    obtain ⟨hi, -⟩ := State.inTransfer_eq_some.1 hk
    have hl := h.lineFalls
    refine State.BusOk.see ?_ _ _
    exact ⟨by simpa [State.clockFell] using h.queue, by
      simpa [State.clockFell] using hl.engine.drives (by simpa using hi) _ _ _⟩
  · exact h.lineFalls.see _ _

theorem State.BusOk.lineChanges (h : s.BusOk) (line : BusLine) (level : Bool) : (s.lineChanges line level).BusOk := by
  unfold State.lineChanges
  cases line
  · cases level
    · simpa using h.sclFalls
    · have h1 : (s.setEngine s.engine.sclRose).BusOk :=
        ⟨by simpa using h.queue, by simpa [Engine.sclRose] using h.engine.releaseClock none⟩
      simpa using h1.see true s.monitor.sda
  · cases level
    · simpa using h.lineFalls.see s.monitor.scl false
    · simpa using h.see s.monitor.scl true

theorem State.BusOk.seeFall (h : s.BusOk) (line : BusLine) : (s.seeFall line).BusOk := by
  cases line <;> exact h.see _ _

theorem State.BusOk.seeReleased (h : s.BusOk) : s.seeReleased.BusOk := by
  unfold State.seeReleased
  split_ifs
  · exact h.see _ _
  · exact h

/-! ### Time and reset -/

theorem State.BusOk.tick (h : s.BusOk) : s.tick.BusOk := by
  have hc : (s.queue.tick (s.time + 1#16)).active.isSome = s.queue.active.isSome := by simp [Queue.tick]
  refine ⟨⟨?_, h.queue.counters, ?_⟩, ?_⟩
  · have := h.queue.total
    simpa [State.tick, Queue.total, Queue.tick, Queue.activeCount] using this
  · have := h.queue.credit
    simpa [State.tick, Queue.tick, Queue.activeCount] using this
  · have hE := h.engine.monitor_congr (m' := s.monitor.tick) rfl rfl
    rw [← hc] at hE
    exact ⟨hE.held, hE.own, by
      have := hE.lines
      change Engine.linesRight s.engine.tick = true
      unfold Engine.linesRight at this ⊢
      cases hs : s.engine.state <;> simp_all [Engine.tick], hE.mark, hE.pulses⟩

theorem State.BusOk.atRelease (cause : ResetCause) (adsel : Nat) (scl sda : Bool) (l : List Instr) :
    (State.atRelease cause adsel scl sda l).BusOk :=
  (State.busWf_iff _).1 (show (State.busWf _) = true by rfl)

theorem State.BusOk.enterReset (s : State) (c : ResetCause) : (s.enterReset c).BusOk :=
  (State.busWf_iff _).1 (show (State.busWf _) = true by rfl)

end Sys2Proof.Machine


namespace Sys2Proof.Machine

variable {s t : State}

/-! ### The owners' acts and the bus -/

theorem State.BusOk.withdrawPoll (h : s.BusOk) (i : Nat) : (s.withdrawPoll i).BusOk := by
  unfold State.withdrawPoll
  split_ifs with hq
  · simp only [State.pollQueued, List.any_eq_true, decide_eq_true_eq] at hq
    exact h.of_queue (by simp) (by simp) ((State.dequeue_fits .p i h.queue hq).mono (Nat.zero_le 1))
      (by rw [State.dequeue_active])
  · exact h.of_queue (by simp) (by simp) (by simpa [Queue.orphanPoll] using h.queue.setActive _ (by simp))
      (by simp [Queue.orphanPoll])

theorem State.BusOk.fallsDue (h : s.BusOk) (i : Nat) : (s.fallsDue i).BusOk :=
  State.BusOk.retryPosts (h.same (by simp) (by simp) (by simp))

theorem State.BusOk.defineNew (h : s.BusOk) (o : Direct) (i : Nat) (p : Definition) : (s.defineNew o i p).BusOk :=
  State.BusOk.fallsDue (h.same (by simp) (by simp) (by simp)) i

theorem State.BusOk.redefine (h : s.BusOk) (o : Direct) (i : Nat) (p : Definition) (old : Entry) :
    (s.redefine o i p old).BusOk := by
  have h1 : (s.redefined o i p old).BusOk :=
    (h.withdrawPoll i).same (by simp [State.redefined]) (by simp [State.redefined]) (by simp [State.redefined])
  unfold State.redefine
  dsimp only
  split_ifs
  · exact h1.departed.fallsDue i
  · exact h1.fallsDue i

theorem State.BusOk.defineAt (h : s.BusOk) (o : Direct) (i : Nat) (p : Definition) : (s.defineAt o i p).1.BusOk := by
  unfold State.defineAt
  split
  · exact h.defineNew o i p
  · split_ifs
    · exact h.redefine o i p _
    · exact h

theorem State.BusOk.mirrorDefine (h : s.BusOk) (o : Direct) (x : Byte) (p : Definition) :
    (s.mirrorDefine o x p).1.BusOk := by
  unfold State.mirrorDefine
  split_ifs
  · exact h
  · split
    · exact h
    · split
      · exact h.defineNew o _ p
      · exact h
  · split
    · exact h
    · exact h.defineAt o _ p

theorem State.BusOk.dropEntry (h : s.BusOk) (i : Nat) (e : Entry) : (s.dropEntry i e).BusOk := by
  have h1 : ((((s.withdrawPoll i).notifyEach (e.subs.set e.owner false) .entryDropped (.entry i) []).setEntry i
      none).clearDue i).BusOk := (h.withdrawPoll i).same (by simp) (by simp) (by simp)
  unfold State.dropEntry
  dsimp only
  split_ifs
  · exact h1.departed
  · exact h1

/-- An entry command keeps what its act keeps. -/
theorem State.onEntry_keeps {P : State → Prop} (h : P s) (x : Byte) (act : Entry → State × Reply)
    (ha : ∀ e, s.entry x.toNat = some e → P (act e).1) : P (s.onEntry x act).1 := by
  unfold State.onEntry
  split_ifs
  · exact h
  · split
    · exact h
    · exact ha _ (by assumption)

theorem State.BusOk.mirrorDrop (h : s.BusOk) (o : Direct) (x : Byte) : (s.mirrorDrop o x).1.BusOk :=
  State.onEntry_keeps h x _ fun e _ => by
    split_ifs
    · exact h.dropEntry _ e
    · exact h

theorem State.BusOk.setSubscribed (h : s.BusOk) (o : Direct) (x : Byte) (on : Bool) :
    (s.setSubscribed o x on).1.BusOk :=
  State.onEntry_keeps h x _ fun e _ => h.same (by simp) (by simp) (by simp)

theorem State.BusOk.refresh (h : s.BusOk) (x : Byte) : (s.refresh x).1.BusOk :=
  State.onEntry_keeps h x _ fun e _ => by
    split_ifs
    · exact h
    · unfold State.post
      cases hp : s.noPlace .p with
      | some status => exact h
      | none => exact h.posted _ e (State.noPlace_total hp)

/-- An admission makes a ticket where the checks of R5 pass. -/
theorem State.admission_ok {o : Direct} {req : Except Status Request} {w : Bool} {u : State}
    (h : s.admission o req w = .ok u) : ∃ r, req = .ok r ∧ s.noPlace (directOrigin o) = none ∧ u = s.admitTicket o r w := by
  unfold State.admission at h
  split at h
  · cases h
  · split at h
    · cases h
    · cases h
      exact ⟨_, rfl, by assumption, rfl⟩

/-- A SUBMIT leaves the state as it was, or with its ticket. -/
theorem State.submit_cases (s : State) (o : Direct) (req : Except Status Request) :
    (s.submit o req).1 = s ∨
      ∃ r, s.noPlace (directOrigin o) = none ∧ (s.submit o req).1 = s.admitTicket o r false := by
  unfold State.submit
  split
  · exact .inl rfl
  · rename_i u hu
    obtain ⟨r, -, hp, rfl⟩ := State.admission_ok hu
    exact .inr ⟨r, hp, rfl⟩

/-- A TRANSACT likewise. -/
theorem State.transact_cases (s : State) (o : Direct) (req : Except Status Request) :
    (s.transact o req).1 = s ∨
      ∃ r, s.noPlace (directOrigin o) = none ∧ (s.transact o req).1 = s.admitTicket o r true := by
  unfold State.transact
  split
  · exact .inl rfl
  · rename_i u hu
    obtain ⟨r, -, hp, rfl⟩ := State.admission_ok hu
    exact .inr ⟨r, hp, rfl⟩

theorem State.BusOk.submit (h : s.BusOk) (o : Direct) (req : Except Status Request) : (s.submit o req).1.BusOk := by
  rcases s.submit_cases o req with h1 | ⟨r, hp, h1⟩ <;> rw [h1]
  · exact h
  · exact h.admitTicket o r false (State.noPlace_total hp)

theorem State.BusOk.transact (h : s.BusOk) (o : Direct) (req : Except Status Request) :
    (s.transact o req).1.BusOk := by
  rcases s.transact_cases o req with h1 | ⟨r, hp, h1⟩ <;> rw [h1]
  · exact h
  · exact h.admitTicket o r true (State.noPlace_total hp)

/-- The ticket found QUEUED is in the order, and of that number. -/
theorem State.findQueued_some {o : Origin} {n : Nat} {k : Ticket} (h : s.findQueued o n = some k) :
    k ∈ s.queuedOf o ∧ k.number = n :=
  ⟨List.mem_of_find?_eq_some h, by simpa using List.find?_some h⟩

theorem State.activeOf_eq_some {o : Direct} {n : Nat} {k : Ticket} : s.activeOf o n = some k ↔
    s.queue.active = some k ∧ k.origin = directOrigin o ∧ k.number = n ∧ k.orphaned = false := by
  simp [State.activeOf, Option.filter_eq_some_iff, and_assoc]

/-- A CANCEL ends a QUEUED ticket, marks the ACTIVE one, or leaves the state as it was (R16). -/
theorem State.cancel_cases (s : State) (o : Direct) (n : Nat) :
    (∃ k, s.findQueued (directOrigin o) n = some k ∧
        (s.cancel o n).1 = s.endQueued (directOrigin o) k .cancelled) ∨
      (∃ k, s.queue.active = some k ∧ (s.cancel o n).1 = s.setActive (some { k with abort := true })) ∨
        (s.cancel o n).1 = s := by
  unfold State.cancel
  split
  · exact .inr (.inr rfl)
  · split
    · rename_i k hk
      exact .inl ⟨k, hk, rfl⟩
    · split
      · rename_i k hk
        exact .inr (.inl ⟨k, (State.activeOf_eq_some.1 hk).1, rfl⟩)
      · split <;> exact .inr (.inr rfl)

theorem State.BusOk.cancel (h : s.BusOk) (o : Direct) (n : Nat) : (s.cancel o n).1.BusOk := by
  rcases s.cancel_cases o n with ⟨k, hk, h1⟩ | ⟨k, hk, h1⟩ | h1 <;> rw [h1]
  · exact h.endQueued _ k _ (State.findQueued_some hk).1
  · exact h.of_queue (by simp) (by simp) (by simpa using h.queue.setActive _ (by simp [hk])) (by simp [hk])
  · exact h

theorem State.BusOk.acknowledge (h : s.BusOk) (o : Direct) (k : Nat) : (s.acknowledge o k).BusOk := by
  unfold State.acknowledge
  dsimp only
  generalize hr : (s.setRec o _) = u
  have hq : u.queue = s.queue := by rw [← hr]; simp
  have h1 : (u.setWaiting o ((s.waitingOf o).drop k)).BusOk :=
    h.of_queue (by simp [← hr]) (by simp [← hr])
      (by simpa [hq] using h.queue.setWaiting o ((s.waitingOf o).drop k) (m := 0) (by simp [State.waitingOf]))
      (by simp [hq])
  split_ifs
  · exact h1
  · exact h1.departed

theorem State.BusOk.collect (h : s.BusOk) (o : Direct) (k n : Nat) : (s.collect o k n).1.BusOk := by
  unfold State.collect
  split_ifs
  · exact h
  · exact (h.acknowledge o k).same (by simp) (by simp) (by simp)

theorem State.BusOk.fetchNotices (h : s.BusOk) (o : Direct) (k : Nat) (b : Bool) (n : Nat) :
    (s.fetchNotices o k b n).1.BusOk := by
  unfold State.fetchNotices
  split_ifs
  · exact h
  · exact h.same (by simp) (by simp) (by simp)

/-- A LEASE changes the lease table alone. -/
theorem State.lease_fst (s : State) (o : Direct) (a : Byte) (d : Nat) (f : Byte) :
    ∃ l, (s.lease o a d f).1 = s.setLeases l := by
  unfold State.lease
  split
  · exact ⟨_, rfl⟩
  · split
    · exact ⟨_, rfl⟩
    · split
      · exact ⟨_, rfl⟩
      · dsimp only
        split <;> split <;> exact ⟨_, rfl⟩

theorem State.release_fst (s : State) (o : Direct) (a : Byte) : ∃ l, (s.release o a).1 = s.setLeases l := by
  unfold State.release
  split_ifs
  · exact ⟨_, rfl⟩
  · split
    · split_ifs <;> exact ⟨_, rfl⟩
    · exact ⟨_, rfl⟩

theorem State.BusOk.settingWrite (h : s.BusOk) (o : Direct) (n : Nat) (v : Field) : (s.settingWrite o n v).1.BusOk := by
  unfold State.settingWrite
  split_ifs
  · have h1 : ((s.setSettings (s.settings.set n v)).tellSetting o n (s.settings.get n ≠ some v)).BusOk := by
      unfold State.tellSetting
      split_ifs <;> exact h.same (by simp) (by simp) (by simp)
    have h2 : (((s.setSettings (s.settings.set n v)).tellSetting o n (s.settings.get n ≠ some v)).quotaWritten n
        s.settings).BusOk := by
      unfold State.quotaWritten
      split_ifs
      · exact h1.retryPosts
      · exact h1
    change (State.writeSetting s o n v).BusOk
    unfold State.writeSetting State.idleDetectWritten
    split_ifs with hi
    · refine h2.becomeFree ?_
      have := hi.2.2
      simp only [State.idleFrees, Bool.and_eq_true, Bool.not_eq_true'] at this
      exact this.2
    · exact h2
  · exact h

theorem State.BusOk.queueReset (h : s.BusOk) (o : Direct) : (s.queueReset o).BusOk := by
  have h1 : (s.setQueue (s.queue.originReset o)).BusOk := by
    refine h.of_queue (by simp) (by simp) ?_ (by simp [Queue.originReset])
    have h2 := (h.queue.setQueued (m := 0) (directOrigin o) [] (by simp)).setWaiting (m := 0) o [] (by simp)
    exact (h2.setActive (s.queue.active.map (·.orphanedBy o)) (by simp)).setCounter o 1 (by omega) (by omega)
  unfold State.queueReset
  dsimp only
  split_ifs
  · exact h1.departed
  · exact h1

/-- A property that every step of a fold keeps. -/
theorem foldl_keeps {α : Type} {P : State → Prop} (f : State → α → State) (l : List α) (hf : ∀ u x, P u → P (f u x)) :
    ∀ u, P u → P (l.foldl f u) := by
  induction l with
  | nil => exact fun u h => h
  | cons x xs ih => exact fun u h => ih _ (hf u x h)

theorem State.BusOk.originReset (h : s.BusOk) (o : Direct) : (s.originReset o).BusOk := by
  have h1 : ((s.queueReset o).leaseReset o).BusOk :=
    (h.queueReset o).same (by simp [State.leaseReset]) (by simp [State.leaseReset]) (by simp [State.leaseReset])
  have h2 : (((s.queueReset o).leaseReset o).unsubscribeAll o).BusOk :=
    h1.same (by simp [State.unsubscribeAll]) (by simp [State.unsubscribeAll]) (by simp [State.unsubscribeAll])
  have h3 : (((s.queueReset o).leaseReset o).mirrorReset o).BusOk := by
    refine foldl_keeps (State.dropOwned o) _ (fun u i hu => ?_) _ h2
    unfold State.dropOwned
    split
    · split_ifs
      · exact hu.dropEntry i _
      · exact hu
    · exact hu
  exact h3.same (by simp [State.originReset]) (by simp [State.originReset]) (by simp [State.originReset])

theorem State.takeDueOf_frame (due : Time) (u : State) (i : Nat) : (State.takeDueOf due u i).queue = u.queue ∧
    (State.takeDueOf due u i).engine = u.engine ∧ (State.takeDueOf due u i).monitor = u.monitor ∧
    (State.takeDueOf due u i).records = u.records := by
  unfold State.takeDueOf
  split_ifs <;> simp

theorem State.BusOk.allFallDue (h : s.BusOk) (due : Time) : (s.allFallDue due).BusOk := by
  refine State.BusOk.retryPosts (foldl_keeps _ _ (fun u i hu => ?_) _ h)
  obtain ⟨hq, he, hm, -⟩ := State.takeDueOf_frame due u i
  exact hu.same he hm hq

theorem State.BusOk.expireLease (h : s.BusOk) (l : Lease) : (s.expireLease l).BusOk :=
  h.of_queue (by simp [State.expireLease]) (by simp [State.expireLease])
    (by simpa [State.expireLease, Queue.markLeaseEnded] using h.queue.setActive _ (by simp))
    (by simp [State.expireLease, Queue.markLeaseEnded])

/-- Every command keeps the engine, the monitor and the queue in agreement. -/
theorem exec_busOk (i : Instr) (hw : s.settings.wf = true) (hs : s.BusOk) (h : exec i s = .next t) : t.BusOk := by
  have hP := State.BusOk.portFree
  by_cases hp : isPortEvent i = true
  · exact hP.exec_portEvent i hp hs h
  cases i
  case submit => exact hP.command hs (fun u hu => hu.submit _ _) h
  case transact => exact hP.command hs (fun u hu => hu.transact _ _) h
  case cancel => exact hP.command hs (fun u hu => hu.cancel _ _) h
  case ticketQuery | mirrorRead | settingRead | status => exact hP.command hs (fun u hu => hu) h
  case collect => exact hP.command hs (fun u hu => hu.collect _ _ _) h
  case notices => exact hP.command hs (fun u hu => hu.fetchNotices _ _ _ _) h
  case lease =>
    refine hP.command hs (fun u hu => ?_) h
    obtain ⟨l, hl⟩ := u.lease_fst _ _ _ _
    rw [hl]
    exact hu.same (by simp) (by simp) (by simp)
  case release =>
    refine hP.command hs (fun u hu => ?_) h
    obtain ⟨l, hl⟩ := u.release_fst _ _
    rw [hl]
    exact hu.same (by simp) (by simp) (by simp)
  case mirrorDefine => exact hP.command hs (fun u hu => hu.mirrorDefine _ _ _) h
  case mirrorDrop => exact hP.command hs (fun u hu => hu.mirrorDrop _ _) h
  case subscribe => exact hP.command hs (fun u hu => hu.setSubscribed _ _ _) h
  case unsubscribe => exact hP.command hs (fun u hu => hu.setSubscribed _ _ _) h
  case refresh => exact hP.command hs (fun u hu => hu.refresh _) h
  case settingWrite => exact hP.command hs (fun u hu => hu.settingWrite _ _ _) h
  case originReset o =>
    exact hP.command (act := fun u => (u.originReset o, .answer .ok [])) hs (fun u hu => hu.originReset o) h
  case busRecover => exact hP.command hs (fun u hu => hu.busRecover) h
  case ticketStart =>
    simp only [exec, execTicketStart] at h
    split at h
    · rename_i c hc
      exact hP.event hs (fun hst => hs.startTicket hw hc (State.canStart_iff.1 hst).1) h
    · exact hP.event hs (fun _ => hs) h
  case addressByteEnd ack =>
    simp only [exec, execAddressByteEnd] at h
    split at h
    · exact hP.event hs (fun _ => hs.afterAddress (State.running_eq_some (by assumption)).2 ack) h
    · exact hP.event hs (fun _ => hs) h
  case writeByteEnd ack =>
    simp only [exec, execWriteByteEnd] at h
    split at h
    · exact hP.event hs (fun _ => hs.afterWriteByte (State.running_eq_some (by assumption)).2 ack) h
    · exact hP.event hs (fun _ => hs) h
  case restartEnd ack =>
    simp only [exec, execRestartEnd] at h
    split at h
    · exact hP.event hs (fun _ => hs.afterRestart (State.running_eq_some (by assumption)).2 ack) h
    · exact hP.event hs (fun _ => hs) h
  case readByteEnd byte =>
    simp only [exec, execReadByteEnd] at h
    split at h
    · exact hP.event hs (fun _ => hs.afterReadByte (State.running_eq_some (by assumption)).2 _) h
    · exact hP.event hs (fun _ => hs) h
  case stopComplete =>
    simp only [exec, execStopComplete] at h
    split at h
    · rename_i k r hk hr
      obtain ⟨hst, ha⟩ := State.running_eq_some hk
      exact hP.event hs (fun _ => hs.completeStop (by rw [hst]; rfl) ha r) h
    · exact hP.event hs (fun _ => hs) h
  case arbitrationLost cut =>
    simp only [exec, execArbitrationLost] at h
    split at h
    · obtain ⟨hi, ha⟩ := State.inTransfer_eq_some.1 (by assumption)
      exact hP.event hs (fun _ => hs.loseArbitration hi ha cut) h
    · exact hP.event hs (fun _ => hs) h
  case misplacedCondition c cut =>
    simp only [exec, execMisplacedCondition] at h
    split at h
    · obtain ⟨hi, ha⟩ := State.inTransfer_eq_some.1 (by assumption)
      exact hP.event hs (fun _ => hs.misplaced hi ha c cut) h
    · exact hP.event hs (fun _ => hs) h
  case stretchTimeout cut scl sda =>
    simp only [exec, execStretchTimeout] at h
    split at h
    · obtain ⟨-, ha⟩ := State.inTransfer_eq_some.1 (by assumption)
      exact hP.event hs (fun _ => hs.timeOut ha cut _ scl sda) h
    · exact hP.event hs (fun _ => hs) h
  case transactionTimeout cut scl sda =>
    simp only [exec, execTransactionTimeout] at h
    split at h
    · obtain ⟨-, ha⟩ := State.inTransfer_eq_some.1 (by assumption)
      exact hP.event hs (fun _ => hs.timeOut ha cut _ scl sda) h
    · exact hP.event hs (fun _ => hs) h
  case recoveryClockRise sda => exact hP.event hs (fun hr => hs.recoveryClockRise sda hr) h
  case recoveryPulse sda => exact hP.event hs (fun hr => hs.recoveryPulse sda hr) h
  case stuckLimitExpiry =>
    refine hP.event hs (fun hr => ?_) h
    simp only [Bool.and_eq_true, decide_eq_true_eq] at hr
    refine hs.seeReleased.enterStuck ?_
    rw [State.seeReleased]
    split_ifs <;> simp [hr.1]
  case recoveryStopComplete =>
    exact hP.event hs (fun hr => hs.completeRecovery ((State.recovering_iff _).1 hr).1) h
  case recoveryStopFail =>
    exact hP.event hs (fun hr => (hs.see true false).enterStuck (by simpa using ((State.recovering_iff _).1 hr).1)) h
  case retryCountExpiry =>
    refine hP.event hs (fun hr => ?_) h
    simp only [Bool.and_eq_true, decide_eq_true_eq] at hr
    exact hs.attemptRecovery (by rw [hr.1]; rfl)
  case foreignStart => exact hP.event hs (fun _ => hs.foreignCondition .start) h
  case stopSeen => exact hP.event hs (fun _ => hs.foreignCondition .stop) h
  case busFreeTimePassed =>
    refine hP.event hs (fun hf => hs.becomeFree ?_) h
    cases hi : s.engine.state.inTransfer
    · rfl
    · simp [(hs.engine.own hi).2] at hf
  case idleDetect =>
    refine hP.event hs (fun hf => hs.becomeFree ?_) h
    simp only [State.idleFrees, Bool.and_eq_true, Bool.not_eq_true'] at hf
    exact hf.2
  case lineFallInFree line => exact hP.event hs (fun _ => hs.lineFalls.seeFall line) h
  case heldDataExpiry => exact hP.event hs (fun _ => hs.heldDataExpires) h
  case deadlineExpiry q n =>
    simp only [exec, execDeadlineExpiry] at h
    split at h
    · exact hP.event hs (fun _ => hs.endQueued q _ _ (State.findQueued_some (by assumption)).1) h
    · exact hP.event hs (fun _ => hs) h
  case leaseExpiry a =>
    simp only [exec, execLeaseExpiry] at h
    split at h
    · exact hP.event hs (fun _ => hs.expireLease _) h
    · exact hP.event hs (fun _ => hs) h
  case pollDue i =>
    simp only [exec, execPollDue] at h
    split at h
    · exact hP.event hs (fun _ => hs.allFallDue _) h
    · exact hP.event hs (fun _ => hs) h
  case staleness i =>
    simp only [exec, execStaleness] at h
    split at h
    · exact hP.event hs (fun _ => hs.same (by simp) (by simp) (by simp)) h
    · exact hP.event hs (fun _ => hs) h
  case brokerTimeTick => exact hP.event hs (fun _ => hs.tick) h
  case brokerResetEntry c => cases h; exact State.BusOk.enterReset s c
  case brokerResetRelease a b c d =>
    simp only [exec, execBrokerResetRelease] at h
    split at h <;> cases h
    · exact State.BusOk.atRelease _ _ _ _ _
    · exact hs
  case dBusLineChange line level => exact hP.event hs (fun _ => hs.lineChanges line level) h
  all_goals exact absurd rfl hp

end Sys2Proof.Machine

/-! Tickets told apart by their numbers (R3, R4, R120). -/

namespace Sys2Proof.Machine

variable {s t : State}

/-! ### The numbers an origin's tickets and records carry -/

/-- A ticket that is counted by its number: an orphaned poll ticket bears its entry's number no more (R19, R120). -/
def Ticket.counts (k : Ticket) : Bool := k.origin ≠ .p || !k.orphaned

/-- What tells a ticket apart: its origin, its number, and whether the number counts. -/
def Ticket.name (k : Ticket) : Origin × Nat × Bool := (k.origin, k.number, k.counts)

/-- The numbers of an origin's ended tickets that are not yet forgotten; P has none (R12). -/
def State.endedNumbers (s : State) (q : Origin) : List Nat :=
  match originDirect q with
  | some o => (s.waitingOf o).map (·.number) ++ (s.recOf o).ring.map (·.number)
  | none => []

/-- The ACTIVE ticket's number, where it is of that origin and counts. -/
def activeNumbers (a : Option Ticket) (q : Origin) : List Nat :=
  (a.toList.filter fun k => k.origin = q && k.counts).map (·.number)

/-- The numbers that an origin's tickets and records carry. -/
def State.numbersOf (s : State) (q : Origin) : List Nat :=
  (s.queuedOf q).map (·.number) ++ activeNumbers s.queue.active q ++ s.endedNumbers q

theorem originDirect_directOrigin (o : Direct) : originDirect (directOrigin o) = some o := by cases o <;> rfl

theorem directOrigin_ne_p (o : Direct) : directOrigin o ≠ .p := by cases o <;> simp [directOrigin]

theorem directOrigin_of_originDirect {q : Origin} {o : Direct} (h : originDirect q = some o) : q = directOrigin o := by
  cases q <;> cases h <;> rfl

theorem originDirect_eq_none {q : Origin} : originDirect q = none ↔ q = .p := by cases q <;> simp [originDirect]

theorem directOrigin_inj {o q : Direct} : directOrigin o = directOrigin q ↔ o = q := by
  cases o <;> cases q <;> simp [directOrigin]

@[simp] theorem activeNumbers_none (q : Origin) : activeNumbers none q = [] := rfl

theorem activeNumbers_some (k : Ticket) (q : Origin) :
    activeNumbers (some k) q = if k.origin = q ∧ k.counts = true then [k.number] else [] := by
  by_cases h : k.origin = q ∧ k.counts = true
  · simp [activeNumbers, h.1, h.2]
  · rw [if_neg h]
    simpa [activeNumbers] using h

/-- The name alone tells the number. -/
theorem activeNumbers_congr {a a' : Option Ticket} (h : a'.map Ticket.name = a.map Ticket.name) (q : Origin) :
    activeNumbers a' q = activeNumbers a q := by
  have h1 : ∀ x : Option Ticket, activeNumbers x q =
      ((x.map Ticket.name).toList.filter fun y => y.1 = q && y.2.2).map (·.2.1) := fun x => by
    cases x <;> simp [activeNumbers, Ticket.name, List.filter_cons, apply_ite]
  rw [h1, h1, h]

/-- For a direct origin these are the numbers of R3. -/
theorem State.numbersOf_directOrigin (s : State) (o : Direct) : s.numbersOf (directOrigin o) = s.numbers o := by
  have hf : s.queue.active.toList.filter (fun k => k.origin = directOrigin o && k.counts) =
      s.activeFrom (directOrigin o) := by
    refine List.filter_congr fun k _ => ?_
    by_cases h : k.origin = directOrigin o
    · simp [h, Ticket.counts, directOrigin_ne_p]
    · simp [h]
  simp [State.numbersOf, activeNumbers, hf, State.endedNumbers, originDirect_directOrigin, State.numbers]

/-- For P these are the entries of the poll tickets that are not orphaned (R4, R120). -/
theorem State.numbersOf_p (s : State) : s.numbersOf .p =
    (s.queuedOf .p ++ (s.activeFrom .p).filter (fun k => !k.orphaned)).map (·.number) := by
  have hf : s.queue.active.toList.filter (fun k => k.origin = .p && k.counts) =
      (s.activeFrom .p).filter (fun k => !k.orphaned) := by
    rw [State.activeFrom, List.filter_filter]
    refine List.filter_congr fun k _ => ?_
    by_cases h : k.origin = .p <;> simp [h, Ticket.counts]
  simp [State.numbersOf, activeNumbers, hf, State.endedNumbers, originDirect]

/-- The poll-posted mark of an entry; none where the entry is EMPTY. -/
def State.postedMark (s : State) (i : Nat) : Option Bool := (s.entry i).map (·.posted)

/-! ### The invariant -/

/-- Tickets are in their origin's lists and told apart by number; due marks stand on entries without a poll posted, and
poll tickets are of entries with one (R3, R4, R119 to R121). -/
structure State.Apart (s : State) : Prop where
  owned : ∀ q, ∀ k ∈ s.queuedOf q, k.origin = q
  ended : ∀ o, ∀ k ∈ s.waitingOf o, k.origin = directOrigin o
  nodup : ∀ q, (s.numbersOf q).Nodup
  mirror : s.mirror.length = 32
  marks : (s.dueMarks.map (·.index)).Nodup
  idle : ∀ i ∈ s.dueMarks.map (·.index), s.postedMark i = some false
  posted : ∀ i ∈ s.numbersOf .p, s.postedMark i = some true

theorem marksApart_iff (l : List DueMark) : marksApart l = true ↔ (l.map (·.index)).Nodup := by
  induction l with
  | nil => simp [marksApart]
  | cons m ms ih =>
    simp only [marksApart, Bool.and_eq_true, List.all_eq_true, decide_eq_true_eq, ih, List.map_cons, List.nodup_cons,
      List.mem_map, not_exists, not_and]

theorem State.dueMarksWf_iff_postedMark (s : State) : s.dueMarksWf = true ↔
    (s.dueMarks.map (·.index)).Nodup ∧ ∀ i ∈ s.dueMarks.map (·.index), s.postedMark i = some false := by
  rw [State.dueMarksWf_iff, marksApart_iff]
  simp [postable, State.postedMark]

theorem State.directTicketsWf_iff (s : State) (o : Direct) : s.directTicketsWf o = true ↔
    (∀ k ∈ s.queuedOf (directOrigin o), k.origin = directOrigin o) ∧ (∀ k ∈ s.waitingOf o, k.origin = directOrigin o) ∧
      (s.numbersOf (directOrigin o)).Nodup := by
  simp only [State.directTicketsWf, Bool.and_eq_true, List.all_eq_true, List.mem_append, decide_eq_true_eq,
    State.numbersOf_directOrigin, or_imp, forall_and, and_assoc]

theorem State.pollsWf_iff (s : State) : s.pollsWf = true ↔
    (s.numbersOf .p).Nodup ∧ ∀ i ∈ s.numbersOf .p, s.postedMark i = some true := by
  simp only [State.pollsWf, State.numbersOf_p, Bool.and_eq_true, decide_eq_true_eq, List.all_eq_true, List.mem_map,
    forall_exists_index, and_imp, forall_apply_eq_imp_iff₂, State.postedMark, Option.any_eq_true, Option.map_eq_some_iff]

/-- The invariant is that of the statement. -/
theorem State.apart_iff (s : State) :
    s.Apart ↔ s.mirrorWf = true ∧ s.dueMarksWf = true ∧ s.ticketsWf = true := by
  simp only [State.mirrorWf, decide_eq_true_eq, State.dueMarksWf_iff_postedMark, State.ticketsWf, Bool.and_eq_true,
    State.directTicketsWf_iff, State.pollsWf_iff, List.all_eq_true]
  constructor
  · rintro ⟨ho, he, hn, hm, hk, hi, hp⟩
    exact ⟨hm, ⟨hk, hi⟩, ⟨⟨⟨⟨ho _, he _, hn _⟩, ho _, he _, hn _⟩, ho _, he _, hn _⟩, ho _⟩, hn _, hp⟩
  · rintro ⟨hm, ⟨hk, hi⟩, ⟨⟨⟨⟨oa, wa, na⟩, ob, wb, nb⟩, oc, wc, nc⟩, op⟩, np, hp⟩
    exact ⟨fun q => by cases q <;> assumption, fun o => by cases o <;> assumption, fun q => by cases q <;> assumption,
      hm, hk, hi, hp⟩

/-! ### What leaves the numbers as they were -/

theorem State.numbersOf_congr (q : Origin) (hq : t.queuedOf q = s.queuedOf q) (ha : t.queue.active = s.queue.active)
    (he : t.endedNumbers q = s.endedNumbers q) : t.numbersOf q = s.numbersOf q := by
  rw [State.numbersOf, State.numbersOf, hq, ha, he]

theorem State.endedNumbers_congr (q : Origin) (hw : t.queue.waiting = s.queue.waiting)
    (hr : ∀ o, (t.recOf o).ring = (s.recOf o).ring) : t.endedNumbers q = s.endedNumbers q := by
  unfold State.endedNumbers
  cases originDirect q with
  | none => rfl
  | some o => simp only [State.waitingOf, hw, hr]

/-- Fewer numbers, on the same entries. -/
theorem State.Apart.mono (h : s.Apart) (ho : ∀ q, ∀ k ∈ t.queuedOf q, k.origin = q)
    (hw : ∀ o, ∀ k ∈ t.waitingOf o, k.origin = directOrigin o) (hn : ∀ q, (t.numbersOf q).Subperm (s.numbersOf q))
    (hm : t.mirror = s.mirror) (hd : t.dueMarks = s.dueMarks) : t.Apart := by
  have hp : t.postedMark = s.postedMark := by funext i; simp [State.postedMark, State.entry, hm]
  refine ⟨ho, hw, fun q => ?_, by rw [hm]; exact h.mirror, by rw [hd]; exact h.marks, by rw [hd, hp]; exact h.idle,
    fun i hi => by rw [hp]; exact h.posted i ((hn .p).subset hi)⟩
  obtain ⟨l, hl, hs⟩ := hn q
  exact hl.nodup_iff.1 (hs.nodup (h.nodup q))

/-- Tickets and records that carry the same names, and entries with the same marks. -/
theorem State.Apart.of_names (h : s.Apart)
    (hq : ∀ q, (t.queuedOf q).map Ticket.name = (s.queuedOf q).map Ticket.name)
    (ha : t.queue.active.map Ticket.name = s.queue.active.map Ticket.name)
    (hw : ∀ o, (t.waitingOf o).map Ticket.name = (s.waitingOf o).map Ticket.name)
    (hr : ∀ o, (t.recOf o).ring.map (·.number) = (s.recOf o).ring.map (·.number))
    (hm : t.mirror.length = s.mirror.length) (hp : t.postedMark = s.postedMark)
    (hd : t.dueMarks.map (·.index) = s.dueMarks.map (·.index)) : t.Apart := by
  have hnum : ∀ l : List Ticket, l.map (·.number) = (l.map Ticket.name).map (·.2.1) := fun l => by
    simp [Function.comp_def, Ticket.name]
  have hown : ∀ (l m : List Ticket) (q : Origin), l.map Ticket.name = m.map Ticket.name → (∀ k ∈ m, k.origin = q) →
      ∀ k ∈ l, k.origin = q := fun l m q hlm hmq k hk => by
    have : k.name ∈ m.map Ticket.name := hlm ▸ List.mem_map_of_mem hk
    obtain ⟨j, hj, hjk⟩ := List.mem_map.1 this
    exact (congrArg Prod.fst hjk).symm.trans (hmq j hj)
  have hn : t.numbersOf = s.numbersOf := by
    funext q
    have h1 : activeNumbers t.queue.active q = activeNumbers s.queue.active q := activeNumbers_congr ha q
    have h2 : t.endedNumbers q = s.endedNumbers q := by
      unfold State.endedNumbers
      cases originDirect q with
      | none => rfl
      | some o => dsimp only; rw [hr, hnum, hw, ← hnum]
    rw [State.numbersOf, State.numbersOf, h1, h2, hnum, hq, ← hnum]
  exact ⟨fun q => hown _ _ q (hq q) (h.owned q), fun o => hown _ _ _ (hw o) (h.ended o), by rw [hn]; exact h.nodup,
    hm.trans h.mirror, by rw [hd]; exact h.marks, by rw [hd, hp]; exact h.idle, by rw [hn, hp]; exact h.posted⟩

/-- A change of neither tickets, nor rings, nor the mirror's marks. -/
theorem State.Apart.same (h : s.Apart) (hq : t.queue = s.queue) (hr : ∀ o, (t.recOf o).ring = (s.recOf o).ring)
    (hm : t.mirror = s.mirror) (hd : t.dueMarks = s.dueMarks) : t.Apart := by
  have hn : ∀ q, t.numbersOf q = s.numbersOf q := fun q =>
    State.numbersOf_congr q (by simp only [State.queuedOf, hq]) (by rw [hq])
      (State.endedNumbers_congr q (by rw [hq]) hr)
  exact h.mono (fun q => by simp only [State.queuedOf, hq]; exact h.owned q)
    (fun o => by simp only [State.waitingOf, hq]; exact h.ended o) (fun q => by rw [hn q]) hm hd

theorem Ticket.name_unwait (k : Ticket) (n : Nat) : (k.unwait n).name = k.name := by
  unfold Ticket.unwait
  split_ifs <;> rfl

/-- A mark on tickets of the queue that leaves their names. -/
theorem State.Apart.relabel (h : s.Apart) (q : Queue) (hq : ∀ o, (q.queued.get o).map Ticket.name =
    (s.queue.queued.get o).map Ticket.name) (ha : q.active.map Ticket.name = s.queue.active.map Ticket.name)
    (hw : q.waiting = s.queue.waiting) : (s.setQueue q).Apart :=
  h.of_names hq ha (fun o => by simp [State.waitingOf, hw]) (fun o => rfl) rfl rfl rfl

theorem State.Apart.portFree : PortFree State.Apart where
  congr s t hq _ _ hm hd hr h := h.same hq (fun o => by simp only [State.recOf, hr]) hm hd
  unwait s o n h := by
    refine h.relabel _ (fun q => ?_) ?_ rfl
    · rcases eq_or_ne q (directOrigin o) with rfl | hne
      · simp [Queue.unwait, Function.comp_def, Ticket.name_unwait]
      · simp [Queue.unwait, PerOrigin.get_set_of_ne _ _ _ _ hne]
    · cases ha : s.queue.active with
      | none => simp [Queue.unwait, ha]
      | some k =>
        simp only [Queue.unwait, ha, Option.map_some, Option.some.injEq]
        split_ifs
        · exact k.name_unwait n
        · rfl

/-! ### A number comes or goes -/

/-- With one number less, and the number is no more in use. -/
theorem State.Apart.remove (h : s.Apart) (q : Origin) (n : Nat) (ho : ∀ q, ∀ k ∈ t.queuedOf q, k.origin = q)
    (hw : t.queue.waiting = s.queue.waiting) (hn : (s.numbersOf q).Perm (n :: t.numbersOf q))
    (hne : ∀ q', q' ≠ q → t.numbersOf q' = s.numbersOf q') (hm : t.mirror = s.mirror) (hd : t.dueMarks = s.dueMarks) :
    t.Apart ∧ n ∉ t.numbersOf q := by
  refine ⟨h.mono ho (fun o => by simp only [State.waitingOf, hw]; exact h.ended o) (fun q' => ?_) hm hd, ?_⟩
  · rcases eq_or_ne q' q with rfl | hq
    · exact (List.sublist_cons_self n _).subperm.trans hn.symm.subperm
    · rw [hne q' hq]
  · exact (List.nodup_cons.1 (hn.nodup_iff.1 (h.nodup q))).1

/-- With one number more that was not in use; a poll ticket's entry has its poll posted. -/
theorem State.Apart.add (h : s.Apart) (q : Origin) (n : Nat) (hin : n ∉ s.numbersOf q)
    (ho : ∀ q, ∀ k ∈ t.queuedOf q, k.origin = q) (hw : ∀ o, ∀ k ∈ t.waitingOf o, k.origin = directOrigin o)
    (hn : (t.numbersOf q).Perm (n :: s.numbersOf q)) (hne : ∀ q', q' ≠ q → t.numbersOf q' = s.numbersOf q')
    (hp : q = .p → s.postedMark n = some true) (hm : t.mirror = s.mirror) (hd : t.dueMarks = s.dueMarks) :
    t.Apart := by
  have hpm : t.postedMark = s.postedMark := by funext i; simp [State.postedMark, State.entry, hm]
  refine ⟨ho, hw, fun q' => ?_, by rw [hm]; exact h.mirror, by rw [hd]; exact h.marks, by rw [hd, hpm]; exact h.idle,
    fun i hi => ?_⟩
  · rcases eq_or_ne q' q with rfl | hq
    · exact hn.nodup_iff.2 (List.nodup_cons.2 ⟨hin, h.nodup q'⟩)
    · rw [hne q' hq]; exact h.nodup q'
  · rw [hpm]
    rcases eq_or_ne .p q with rfl | hq
    · rcases List.mem_cons.1 (hn.mem_iff.1 hi) with rfl | hi
      · exact hp rfl
      · exact h.posted i hi
    · rw [hne .p hq] at hi; exact h.posted i hi

/-! ### Orders and the ACTIVE ticket -/

theorem State.queuedOf_setQueued_ite (s : State) (o q : Origin) (l : List Ticket) :
    (s.setQueued o l).queuedOf q = if q = o then l else s.queuedOf q := by
  split_ifs with h
  · subst h; simp
  · simp [State.queuedOf, PerOrigin.get_set_of_ne _ _ _ _ h]

theorem State.endedNumbers_setQueued (o q : Origin) (l : List Ticket) :
    (s.setQueued o l).endedNumbers q = s.endedNumbers q :=
  State.endedNumbers_congr q (by simp) (fun o => by simp [State.recOf])

theorem State.numbersOf_setQueued_of_ne (o q : Origin) (l : List Ticket) (h : q ≠ o) :
    (s.setQueued o l).numbersOf q = s.numbersOf q :=
  State.numbersOf_congr q (by rw [State.queuedOf_setQueued_ite, if_neg h]) (by simp)
    (State.endedNumbers_setQueued o q l)

theorem State.numbersOf_setQueued (o : Origin) (l : List Ticket) : (s.setQueued o l).numbersOf o =
    l.map (·.number) ++ activeNumbers s.queue.active o ++ s.endedNumbers o := by
  simp [State.numbersOf, State.endedNumbers_setQueued]

theorem map_without (n : Nat) (l : List Ticket) : (without n l).map (·.number) = (l.map (·.number)).erase n := by
  induction l with
  | nil => rfl
  | cons k ks ih =>
    unfold without
    by_cases hk : k.number = n
    · simp [hk]
    · simp [hk, ih]

theorem mem_of_mem_without {n : Nat} {l : List Ticket} {k : Ticket} (h : k ∈ without n l) : k ∈ l := by
  induction l with
  | nil => exact h
  | cons j js ih =>
    unfold without at h
    split_ifs at h
    · exact List.mem_cons_of_mem j h
    · rcases List.mem_cons.1 h with rfl | h
      · simp
      · exact List.mem_cons_of_mem j (ih h)

/-- A QUEUED ticket taken out of its order: its number is in use no more. -/
theorem State.Apart.dequeue (h : s.Apart) {q : Origin} {k : Ticket} (hk : k ∈ s.queuedOf q) :
    (s.dequeue q k.number).Apart ∧ k.number ∉ (s.dequeue q k.number).numbersOf q := by
  refine h.remove q k.number (fun q' j hj => ?_) (by simp [State.dequeue]) ?_
    (fun q' hq => State.numbersOf_setQueued_of_ne q q' _ hq) (by simp) (by simp)
  · rw [State.dequeue, State.queuedOf_setQueued_ite] at hj
    split_ifs at hj with hq
    · subst hq; exact h.owned q' j (mem_of_mem_without hj)
    · exact h.owned q' j hj
  · rw [State.dequeue, State.numbersOf_setQueued, State.numbersOf, map_without, ← List.cons_append, ← List.cons_append]
    exact ((List.perm_cons_erase (List.mem_map_of_mem hk)).append_right _).append_right _

theorem State.numbersOf_setActive (a : Option Ticket) (q : Origin) : (s.setActive a).numbersOf q =
    (s.queuedOf q).map (·.number) ++ activeNumbers a q ++ s.endedNumbers q := by
  have he : (s.setActive a).endedNumbers q = s.endedNumbers q :=
    State.endedNumbers_congr q (by simp) (fun o => by simp [State.recOf])
  simp [State.numbersOf, he, State.queuedOf]

theorem State.Apart.clearActive (h : s.Apart) : (s.setActive none).Apart :=
  h.mono (fun q => by simpa [State.queuedOf] using h.owned q) (fun o => by simpa [State.waitingOf] using h.ended o)
    (fun q => by
      rw [State.numbersOf_setActive, State.numbersOf, activeNumbers_none, List.append_nil]
      exact ((List.sublist_append_left _ _).append_right _).subperm) (by simp) (by simp)

/-- The ACTIVE ticket leaves the bus: a number that counted is in use no more. -/
theorem State.Apart.takeActive (h : s.Apart) {k : Ticket} (ha : s.queue.active = some k) (hc : k.counts = true) :
    k.number ∉ (s.setActive none).numbersOf k.origin := by
  have hn : (s.numbersOf k.origin).Perm (k.number :: (s.setActive none).numbersOf k.origin) := by
    rw [State.numbersOf_setActive, State.numbersOf, ha, activeNumbers_some, if_pos ⟨rfl, hc⟩]
    simp
  exact (List.nodup_cons.1 (hn.nodup_iff.1 (h.nodup _))).1

/-- A ticket whose number is not in use becomes ACTIVE where there is none. -/
theorem State.Apart.setActive (h : s.Apart) (ha : s.queue.active = none) {k : Ticket}
    (hin : k.number ∉ s.numbersOf k.origin) (hp : k.origin = .p → s.postedMark k.number = some true) :
    (s.setActive (some k)).Apart := by
  by_cases hc : k.counts = true
  · refine h.add k.origin k.number hin (fun q => by simpa [State.queuedOf] using h.owned q)
      (fun o => by simpa [State.waitingOf] using h.ended o) ?_ (fun q hq => ?_) hp (by simp) (by simp)
    · rw [State.numbersOf_setActive, State.numbersOf, ha, activeNumbers_some, if_pos ⟨rfl, hc⟩]
      simp
    · rw [State.numbersOf_setActive, State.numbersOf, ha, activeNumbers_some, if_neg (fun hx => hq hx.1.symm)]
      simp
  · refine h.mono (fun q => by simpa [State.queuedOf] using h.owned q)
      (fun o => by simpa [State.waitingOf] using h.ended o) (fun q => ?_) (by simp) (by simp)
    rw [State.numbersOf_setActive, State.numbersOf, ha, activeNumbers_some, if_neg (fun hx => hc hx.2), activeNumbers_none]

/-- A ticket whose number is not in use joins its origin's order, at either end. -/
theorem State.Apart.setQueued (h : s.Apart) {k : Ticket} (hin : k.number ∉ s.numbersOf k.origin)
    (hp : k.origin = .p → s.postedMark k.number = some true) (l : List Ticket) (hl : l.Perm (k :: s.queuedOf k.origin)) :
    (s.setQueued k.origin l).Apart := by
  refine h.add k.origin k.number hin (fun q j hj => ?_) (fun o => by simpa [State.waitingOf] using h.ended o) ?_
    (fun q hq => State.numbersOf_setQueued_of_ne _ _ _ hq) hp (by simp) (by simp)
  · rw [State.queuedOf_setQueued_ite] at hj
    split_ifs at hj with hq
    · subst hq
      rcases List.mem_cons.1 (hl.mem_iff.1 hj) with rfl | hj
      · rfl
      · exact h.owned _ j hj
    · exact h.owned q j hj
  · rw [State.numbersOf_setQueued, State.numbersOf, ← List.cons_append, ← List.cons_append]
    exact ((hl.map (·.number)).append_right _).append_right _

theorem State.postedMark_congr (hm : t.mirror = s.mirror) (i : Nat) : t.postedMark i = s.postedMark i := by
  simp [State.postedMark, State.entry, hm]

/-! ### The mirror's marks -/

theorem State.postedMark_setEntry (i j : Nat) (x : Option Entry) (hi : i < s.mirror.length) :
    (s.setEntry i x).postedMark j = if j = i then x.map (·.posted) else s.postedMark j := by
  unfold State.postedMark
  split_ifs with h
  · subst h; rw [State.entry_setEntry s _ _ hi]
  · rw [State.entry_setEntry_of_ne _ _ _ _ h]

theorem State.numbersOf_setEntry (i : Nat) (x : Option Entry) (q : Origin) :
    (s.setEntry i x).numbersOf q = s.numbersOf q :=
  State.numbersOf_congr q (by simp [State.queuedOf]) (by simp)
    (State.endedNumbers_congr q (by simp) (fun o => by simp [State.recOf]))

/-- An entry is replaced: it has no due mark with a poll posted, and no poll ticket without. -/
theorem State.Apart.setEntry (h : s.Apart) (i : Nat) (x : Option Entry)
    (hd : i ∈ s.dueMarks.map (·.index) → x.map (·.posted) = some false)
    (hp : i ∈ s.numbersOf .p → x.map (·.posted) = some true) : (s.setEntry i x).Apart := by
  by_cases hi : i < s.mirror.length
  · have hm : ∀ j, (s.setEntry i x).postedMark j = _ := fun j => State.postedMark_setEntry i j x hi
    refine ⟨fun q => by simpa [State.queuedOf] using h.owned q, fun o => by simpa [State.waitingOf] using h.ended o,
      fun q => by rw [State.numbersOf_setEntry]; exact h.nodup q, by simpa using h.mirror, by simpa using h.marks,
      fun j hj => ?_, fun j hj => ?_⟩
    · rw [hm]
      simp only [State.setEntry_fields] at hj
      split_ifs with hji
      · subst hji; exact hd hj
      · exact h.idle j hj
    · rw [hm]
      rw [State.numbersOf_setEntry] at hj
      split_ifs with hji
      · subst hji; exact hp hj
      · exact h.posted j hj
  · have hs : (s.setEntry i x).mirror = s.mirror := by
      simp [List.set_eq_of_length_le (Nat.le_of_not_lt hi)]
    exact h.same (by simp) (fun o => by simp [State.recOf]) hs (by simp)

/-- Due marks are others, on entries without a poll posted. -/
theorem State.Apart.setDueMarks (h : s.Apart) (d : List DueMark) (hn : (d.map (·.index)).Nodup)
    (hi : ∀ i ∈ d.map (·.index), s.postedMark i = some false) : (s.setDueMarks d).Apart := by
  have hnum : ∀ q, (s.setDueMarks d).numbersOf q = s.numbersOf q := fun q =>
    State.numbersOf_congr q (by simp [State.queuedOf]) (by simp)
      (State.endedNumbers_congr q (by simp) (fun o => by simp [State.recOf]))
  have hp : ∀ i, (s.setDueMarks d).postedMark i = s.postedMark i := State.postedMark_congr (by simp)
  exact ⟨fun q => by simpa [State.queuedOf] using h.owned q, fun o => by simpa [State.waitingOf] using h.ended o,
    fun q => by rw [hnum]; exact h.nodup q, by simpa using h.mirror, by simpa using hn,
    fun i hx => by rw [hp]; exact hi i (by simpa using hx), fun i hx => by rw [hp]; exact h.posted i (by rwa [hnum] at hx)⟩

theorem State.Apart.clearDue (h : s.Apart) (i : Nat) : (s.clearDue i).Apart := by
  have hsub : ((s.dueMarks.filter (·.index ≠ i)).map (·.index)).Sublist (s.dueMarks.map (·.index)) :=
    List.filter_sublist.map _
  exact h.setDueMarks _ (hsub.nodup h.marks) fun j hj => h.idle j (hsub.subset hj)

theorem State.not_mem_clearDue (i : Nat) : i ∉ (s.clearDue i).dueMarks.map (·.index) := by
  simp [State.clearDue]

theorem insertMark_perm (m : DueMark) (l : List DueMark) : (insertMark m l).Perm (m :: l) := by
  induction l with
  | nil => rfl
  | cons n ns ih =>
    unfold insertMark
    split_ifs
    · rfl
    · exact (ih.cons n).trans (List.Perm.swap m n ns)

theorem State.isDue_iff (i : Nat) : s.isDue i = true ↔ i ∈ s.dueMarks.map (·.index) := by
  simp [State.isDue]

/-- A due mark is set on an entry without a poll posted. -/
theorem State.Apart.markDue (h : s.Apart) (m : DueMark) (hm : s.postedMark m.index = some false) :
    (s.markDue m).Apart := by
  unfold State.markDue
  split_ifs with hd
  · exact h
  · rw [State.isDue_iff] at hd
    have hp := (insertMark_perm m s.dueMarks).map (·.index)
    refine h.setDueMarks _ (hp.nodup_iff.2 (List.nodup_cons.2 ⟨hd, h.marks⟩)) fun i hi => ?_
    rcases List.mem_cons.1 (hp.mem_iff.1 hi) with rfl | hi
    · exact hm
    · exact h.idle i hi

/-- An entry's due time is taken (R119). -/
theorem State.Apart.takeDue (h : s.Apart) (i : Nat) (b : Bool) : (s.takeDue i b).Apart := by
  unfold State.takeDue
  split
  · exact h
  · rename_i e he
    have hpm : s.postedMark i = some e.posted := by simp [State.postedMark, he]
    have h1 : (s.setEntry i (some { e with dueReached := false })).Apart :=
      h.setEntry i _ (fun hi => by rw [← h.idle i hi, hpm]; rfl) (fun hi => by rw [← h.posted i hi, hpm]; rfl)
    dsimp only
    split_ifs with hp
    · exact h1
    · refine h1.markDue _ ?_
      rw [State.postedMark_setEntry _ _ _ (s.entry_lt i e he), if_pos rfl]
      simpa using hp

/-! ### Posts (R120 to R122) -/

/-- An admitted post of an entry without a poll posted. -/
theorem State.Apart.post (h : s.Apart) {i : Nat} {e : Entry} (he : s.entry i = some e) (hp : e.posted = false) :
    (s.posted i e).Apart := by
  have hi := s.entry_lt i e he
  have hpm : s.postedMark i = some false := by simp [State.postedMark, he, hp]
  have hin : i ∉ s.numbersOf .p := fun hx => by simp [h.posted i hx] at hpm
  have hc := h.clearDue i
  have h1 : ((s.clearDue i).setEntry i (some { e with posted := true })).Apart :=
    hc.setEntry i _ (fun hx => absurd hx (State.not_mem_clearDue i)) (fun _ => rfl)
  have hnum : ∀ q, ((s.clearDue i).setEntry i (some { e with posted := true })).numbersOf q = s.numbersOf q := fun q => by
    rw [State.numbersOf_setEntry]
    exact State.numbersOf_congr q (by simp [State.queuedOf]) (by simp)
      (State.endedNumbers_congr q (by simp) (fun o => by simp [State.recOf]))
  have h2 := h1.setQueued (k := s.newTicket .p i e.request) (by rw [hnum]; exact hin)
    (fun _ => by
      change State.postedMark _ i = _
      rw [State.postedMark_setEntry _ _ _ (by simpa using hi), if_pos rfl]; rfl)
    (s.queuedOf .p ++ [s.newTicket .p i e.request]) (by
      simp [State.queuedOf, State.newTicket, PerOrigin.get])
  refine h2.same ?_ (fun o => by simp [State.recOf]) (by simp [State.posted]) (by simp [State.posted, State.clearDue])
  simp [State.posted, State.enqueue, State.newTicket]

theorem State.Apart.postEach (l : List DueMark) : ∀ s : State, s.Apart → s.dueMarks = l →
    (State.postEach l s).Apart := by
  induction l with
  | nil => exact fun s h _ => h
  | cons m ms ih =>
    intro s h hl
    have hm := h.idle m.index (by simp [hl])
    simp only [State.postedMark, Option.map_eq_some_iff] at hm
    obtain ⟨e, he, hp⟩ := hm
    simp only [State.postEach, he, State.post]
    cases hn : s.noPlace .p with
    | some status => exact h
    | none =>
      refine ih _ (h.post he hp) ?_
      have hd : (s.posted m.index e).dueMarks = s.dueMarks.filter (·.index ≠ m.index) := by
        simp [State.posted, State.clearDue]
      have hnd := h.marks
      rw [hl, List.map_cons, List.nodup_cons] at hnd
      rw [hd, hl, List.filter_cons_of_neg (by simp), List.filter_eq_self]
      intro n hnm
      have : n.index ≠ m.index := fun hx => hnd.1 (hx ▸ List.mem_map_of_mem hnm)
      simpa using this

theorem State.Apart.retryPosts (h : s.Apart) : s.retryPosts.Apart := State.Apart.postEach _ s h rfl

theorem State.Apart.departed (h : s.Apart) : s.departed.Apart := h.retryPosts

end Sys2Proof.Machine


namespace Sys2Proof.Machine

variable {s t : State}

/-! ### Rings (R78, R87) -/

theorem Records.ring_arrive (r : Records) (k : NoticeKind) (b : Subject) (v : List Byte) (now : Time) :
    (r.arrive k b v now).ring = r.ring := by
  unfold Records.arrive
  split
  · rfl
  · split_ifs <;> rfl

/-- A notice leaves every ring. -/
theorem State.ring_notifyEach (m : PerDirect Bool) (k : NoticeKind) (b : Subject) (v : List Byte) (o : Direct) :
    ((s.notifyEach m k b v).recOf o).ring = (s.recOf o).ring := by
  rw [State.recOf_notifyEach]
  split_ifs
  · exact Records.ring_arrive _ _ _ _ _
  · rfl

theorem State.ring_notify (q : Direct) (k : NoticeKind) (b : Subject) (v : List Byte) (o : Direct) :
    ((s.notify q k b v).recOf o).ring = (s.recOf o).ring := by
  rw [State.recOf_notify]
  split_ifs
  · exact Records.ring_arrive _ _ _ _ _
  · rfl

theorem State.ring_setRec (o : Direct) (r : Records) (hr : r.ring = (s.recOf o).ring) (q : Direct) :
    ((s.setRec o r).recOf q).ring = (s.recOf q).ring := by
  rcases eq_or_ne q o with rfl | h
  · simpa using hr
  · rw [State.recOf_setRec_of_ne _ _ _ _ h]

/-! ### The end of a ticket (R10, R12, R13) -/

/-- The end of a poll replaces its entry by one without a poll posted, and tells of it (R124 to R127). -/
theorem State.pollResult_entry {i : Nat} {e : Entry} (he : s.entry i = some e) (r : Result) (v : List Byte) :
    ∃ e' : Entry, e'.posted = false ∧ (s.pollResult i r v).mirror = (s.setEntry i (some e')).mirror ∧
      ∀ o, ((s.pollResult i r v).recOf o).ring = (s.recOf o).ring := by
  have hr : ∀ x o, ((s.setEntry i x).recOf o).ring = (s.recOf o).ring := fun x o => by simp [State.recOf]
  unfold State.pollResult
  rw [he]
  dsimp only
  split
  · refine ⟨e.afterDone v (s.after (e.interval * 10)), rfl, ?_, fun o => ?_⟩ <;> unfold State.pollDone <;> dsimp only
    · split_ifs <;> simp
    · split_ifs <;> simp only [State.ring_notifyEach, hr]
  case h_6 | h_7 | h_8 | h_9 =>
    exact ⟨e.afterNeutral (s.after (e.interval * 10)), rfl, rfl, hr _⟩
  all_goals
    refine ⟨e.afterFail (s.after e.waitAfterFail), rfl, ?_, fun o => ?_⟩ <;> unfold State.pollFailed <;> dsimp only
    · split_ifs <;> simp
    · split_ifs <;> simp only [State.ring_notifyEach, hr]

theorem State.Apart.pollResult (h : s.Apart) {i : Nat} (hin : i ∉ s.numbersOf .p) (r : Result) (v : List Byte) :
    (s.pollResult i r v).Apart := by
  cases he : s.entry i with
  | none => simpa [State.pollResult, he] using h
  | some e =>
    obtain ⟨e', hp, hm, hr⟩ := State.pollResult_entry he r v
    have h1 : (s.setEntry i (some e')).Apart := h.setEntry i _ (fun _ => by simp [hp]) (fun hi => absurd hi hin)
    exact h1.same (by simp) (fun o => by rw [hr]; simp [State.recOf]) hm (by simp)

theorem State.endedNumbers_directOrigin (o : Direct) :
    s.endedNumbers (directOrigin o) = (s.waitingOf o).map (·.number) ++ (s.recOf o).ring.map (·.number) := by
  simp [State.endedNumbers, originDirect_directOrigin]

/-- The ended numbers of one origin change, and no number else. -/
theorem State.numbersOf_ended (hq : t.queue.queued = s.queue.queued) (ha : t.queue.active = s.queue.active)
    (q : Origin) : t.numbersOf q =
      (s.queuedOf q).map (·.number) ++ activeNumbers s.queue.active q ++ t.endedNumbers q := by
  simp only [State.numbersOf, State.queuedOf, hq, ha]

theorem State.endedNumbers_eq {o : Direct} {q : Origin} (hq : q ≠ directOrigin o)
    (h : ∀ p, p ≠ o → t.waitingOf p = s.waitingOf p ∧ (t.recOf p).ring = (s.recOf p).ring) :
    t.endedNumbers q = s.endedNumbers q := by
  cases hd : originDirect q with
  | none => simp [State.endedNumbers, hd]
  | some p =>
    have hqp := directOrigin_of_originDirect hd
    obtain ⟨h1, h2⟩ := h p fun hp => hq (by rw [hqp, hp])
    simp [State.endedNumbers, hd, h1, h2]

/-- A number that was not in use is added to an origin's ended ones: in the ring, or DONE_WAITING. -/
theorem State.Apart.addEnded (h : s.Apart) (o : Direct) (n : Nat) (hin : n ∉ s.numbersOf (directOrigin o))
    (hq : t.queue.queued = s.queue.queued) (ha : t.queue.active = s.queue.active)
    (hw : ∀ k ∈ t.waitingOf o, k.origin = directOrigin o)
    (hn : (t.endedNumbers (directOrigin o)).Perm (n :: s.endedNumbers (directOrigin o)))
    (hne : ∀ p, p ≠ o → t.waitingOf p = s.waitingOf p ∧ (t.recOf p).ring = (s.recOf p).ring)
    (hm : t.mirror = s.mirror) (hd : t.dueMarks = s.dueMarks) : t.Apart := by
  refine h.add (directOrigin o) n hin (fun q => by simp only [State.queuedOf, hq]; exact h.owned q)
    (fun p k hk => ?_) ?_ (fun q hqo => ?_) (fun hp => absurd hp (directOrigin_ne_p o)) hm hd
  · rcases eq_or_ne p o with rfl | hp
    · exact hw k hk
    · rw [(hne p hp).1] at hk; exact h.ended p k hk
  · rw [State.numbersOf_ended hq ha, State.numbersOf]
    exact (hn.append_left _).trans List.perm_middle
  · rw [State.numbersOf_ended hq ha, State.endedNumbers_eq hqo hne, State.numbersOf]

/-- A direct ticket that has left its place is handed over under its number (R10). -/
theorem State.Apart.handOver (h : s.Apart) {o : Direct} {k : Ticket} (hk : k.origin = directOrigin o)
    (hin : k.number ∉ s.numbersOf (directOrigin o)) (r : Result) : (s.handOver o k r).Apart := by
  unfold State.handOver
  have h1 : (if k.waited then s.deliverCopy o (k.record r s.time) else s).Apart := by
    split_ifs
    · exact h.same (by simp) (fun o => by simp [State.recOf]) (by simp) (by simp)
    · exact h
  have hn1 : (if k.waited then s.deliverCopy o (k.record r s.time) else s).numbersOf (directOrigin o) =
      s.numbersOf (directOrigin o) := by
    split_ifs
    · exact State.numbersOf_congr _ (by simp [State.queuedOf]) (by simp)
        (State.endedNumbers_congr _ (by simp) (fun o => by simp [State.recOf]))
    · rfl
  generalize (if k.waited then s.deliverCopy o (k.record r s.time) else s) = u at h1 hn1 ⊢
  rw [← hn1] at hin
  dsimp only
  split_ifs
  · refine State.Apart.departed (h1.addEnded o k.number hin (by simp) (by simp)
      (by simpa [State.waitingOf] using h1.ended o) ?_ (fun p hp => ⟨by simp [State.waitingOf], ?_⟩) (by simp) (by simp))
    · simp only [State.endedNumbers_directOrigin, State.appendRecord, State.recOf_setRec, List.map_append,
        List.map_singleton, ← List.append_assoc]
      exact List.perm_append_singleton _ _
    · rw [State.appendRecord, State.recOf_setRec_of_ne _ _ _ _ hp]
  · refine h1.addEnded o k.number hin (by simp) (by simp) (fun j hj => ?_) ?_
      (fun p hp => ⟨by simp [State.waitingOf, PerDirect.get_set_of_ne _ _ _ _ hp], by simp [State.recOf]⟩) (by simp)
      (by simp)
    · rw [State.waitingOf_setWaiting, List.mem_append, List.mem_singleton] at hj
      rcases hj with hj | rfl
      · exact h1.ended o j hj
      · exact hk
    · simp only [State.endedNumbers_directOrigin, State.waitingOf_setWaiting, List.map_append, List.map_singleton,
        List.append_assoc]
      simp [State.recOf, Ticket.ended]

/-- A ticket that has left its place ends (R10, R12, R20). -/
theorem State.Apart.finish (h : s.Apart) {k : Ticket} (hin : k.counts = true → k.number ∉ s.numbersOf k.origin)
    (r : Result) : (s.finish k.origin k r).Apart := by
  unfold State.finish
  split_ifs with ho
  · exact h.departed
  · have hin := hin (by simp [Ticket.counts, ho])
    cases hd : originDirect k.origin with
    | some o =>
      have hk := directOrigin_of_originDirect hd
      exact h.handOver hk (by rwa [hk] at hin) r
    | none =>
      rw [originDirect_eq_none.1 hd] at hin
      exact (h.pollResult hin _ _).departed

/-- A QUEUED ticket ends (R14, R16). -/
theorem State.Apart.endQueued (h : s.Apart) {q : Origin} {k : Ticket} (hk : k ∈ s.queuedOf q) (r : Result) :
    (s.endQueued q k r).Apart := by
  obtain ⟨h1, hin⟩ := h.dequeue hk
  obtain rfl : k.origin = q := h.owned q k hk
  exact h1.finish (k := k.clearProgress) (fun _ => hin) r

/-- Progress and marks of a ticket that leave its name. -/
theorem Ticket.name_eq_iff {k k' : Ticket} : k'.name = k.name ↔
    k'.origin = k.origin ∧ k'.number = k.number ∧ k'.counts = k.counts := by
  simp [Ticket.name]

theorem Ticket.name_withCut (k : Ticket) (cut : Sampled) : (k.withCut cut).name = k.name := by
  cases cut <;> rfl

/-- The ACTIVE ticket ends, its progress as it may be. -/
theorem State.Apart.endActive (h : s.Apart) {k k' : Ticket} (ha : s.queue.active = some k) (hk : k'.name = k.name)
    (r : Result) : (s.endActive k' r).Apart := by
  obtain ⟨ho, hn, hc⟩ := Ticket.name_eq_iff.1 hk
  exact h.clearActive.finish (fun hcounts => by rw [ho, hn]; exact h.takeActive ha (hc ▸ hcounts)) r

/-- A lost ticket returns to the head of its order, or ends (R13, R15). -/
theorem State.Apart.lost (h : s.Apart) {k : Ticket} (hin : k.counts = true → k.number ∉ s.numbersOf k.origin)
    (hp : k.origin = .p → k.counts = true → s.postedMark k.number = some true) : (s.lost k).Apart := by
  unfold State.lost
  split_ifs with ho
  · exact h.finish hin _
  · exact h.finish hin _
  · exact h.finish hin _
  · exact h.finish (k := { k.clearProgress with retries := k.retries + 1 }) hin _
  · have hc : k.counts = true := by simp [Ticket.counts, ho]
    exact h.setQueued (k := { k.clearProgress with retries := k.retries + 1 }) (hin hc) (fun hx => hp hx hc) _
      (List.Perm.refl _)

/-- The ACTIVE ticket of P has its entry's poll-posted mark while it counts. -/
theorem State.Apart.active_posted (h : s.Apart) {k : Ticket} (ha : s.queue.active = some k) (ho : k.origin = .p)
    (hc : k.counts = true) : s.postedMark k.number = some true := by
  refine h.posted _ ?_
  simp [State.numbersOf, ha, activeNumbers_some, ho, hc]

end Sys2Proof.Machine


namespace Sys2Proof.Machine

variable {s t : State}

/-! ### The number of a new ticket (R3) -/

theorem State.numberInUse_iff (o : Direct) (n : Nat) : s.numberInUse o n = true ↔ n ∈ s.numbers o := by
  simp only [State.numberInUse, State.numbers, State.activeFrom, Bool.or_eq_true, List.any_eq_true, decide_eq_true_eq,
    Option.any_eq_true, Bool.and_eq_true, List.mem_append, List.mem_map, List.mem_filter, Option.mem_toList,
    or_and_right, exists_or, and_assoc]

/-- The i-th number from `n` on, 255 followed by 1. -/
def numberAfter (n i : Nat) : Nat := (n - 1 + i) % 255 + 1

theorem numberAfter_nextNumber (n i : Nat) (h1 : 1 ≤ n) (h2 : n ≤ 255) :
    numberAfter (nextNumber n) i = numberAfter n (i + 1) := by
  unfold numberAfter nextNumber
  split_ifs <;> omega

theorem numberAfter_inj (n i j : Nat) (hi : i < 255) (hj : j < 255) (h : numberAfter n i = numberAfter n j) : i = j := by
  unfold numberAfter at h
  omega

/-- The search passes numbers in use alone, and ends at one that is not, if not at its own end. -/
theorem State.firstFree_spec (o : Direct) (k : Nat) : ∀ n, 1 ≤ n → n ≤ 255 →
    ∃ i ≤ k, s.firstFree o n k = numberAfter n i ∧ (∀ j < i, numberAfter n j ∈ s.numbers o) ∧
      (i < k → s.firstFree o n k ∉ s.numbers o) := by
  induction k with
  | zero => exact fun n h1 h2 => ⟨0, le_rfl, by simp [State.firstFree, numberAfter]; omega, by simp, by simp⟩
  | succ k ih =>
    intro n h1 h2
    have h0 : numberAfter n 0 = n := by simp [numberAfter]; omega
    unfold State.firstFree
    split_ifs with hu
    · rw [State.numberInUse_iff] at hu
      obtain ⟨h3, h4⟩ := nextNumber_range n h1 h2
      obtain ⟨i, hik, he, hj, hf⟩ := ih _ h3 h4
      rw [numberAfter_nextNumber n i h1 h2] at he
      refine ⟨i + 1, by omega, he, fun j hji => ?_, fun hi => hf (by omega)⟩
      cases j with
      | zero => rwa [h0]
      | succ j => rw [← numberAfter_nextNumber n j h1 h2]; exact hj j (by omega)
    · rw [State.numberInUse_iff] at hu
      exact ⟨0, by omega, h0.symm, by simp, fun _ => hu⟩

/-- An origin's numbers are no more than the queue's tickets and its ring's records. -/
theorem State.length_numbers_le (s : State) (o : Direct) :
    (s.numbers o).length ≤ s.queue.total + (s.recOf o).ring.length := by
  have ha : (s.activeFrom (directOrigin o)).length ≤ s.queue.activeCount := by
    refine (List.length_filter_le _ _).trans ?_
    unfold Queue.activeCount
    cases s.queue.active <;> simp
  simp only [State.numbers, List.length_append, List.length_map]
  have : (s.queuedOf (directOrigin o)).length + (s.waitingOf o).length + s.queue.activeCount ≤ s.queue.total := by
    cases o <;> simp only [State.queuedOf, State.waitingOf, directOrigin, PerOrigin.get, PerDirect.get, Queue.total] <;>
      omega
  omega

/-- Fewer than 255 numbers are in use, so the search of R3 ends at one that is not. -/
theorem State.ticketNumber_spec (o : Direct) (h1 : 1 ≤ s.queue.counter.get o) (h2 : s.queue.counter.get o ≤ 255)
    (ht : s.queue.total ≤ 24) (hr : (s.recOf o).ring.length ≤ 8) : s.ticketNumber o ∉ s.numbers o ∧
      ∃ i, s.ticketNumber o = numberAfter (s.queue.counter.get o) i ∧
        ∀ j < i, numberAfter (s.queue.counter.get o) j ∈ s.numbers o := by
  obtain ⟨i, hi, he, hj, hf⟩ := State.firstFree_spec (s := s) o 255 _ h1 h2
  refine ⟨hf ?_, i, he, hj⟩
  by_contra hc
  have hnd : ((List.range 255).map (numberAfter (s.queue.counter.get o))).Nodup :=
    List.nodup_range.map_on fun a ha b hb => numberAfter_inj _ a b (List.mem_range.1 ha) (List.mem_range.1 hb)
  have hsub : (List.range 255).map (numberAfter (s.queue.counter.get o)) ⊆ s.numbers o := fun x hx => by
    obtain ⟨a, ha, rfl⟩ := List.mem_map.1 hx
    have := List.mem_range.1 ha
    exact hj a (by omega)
  have hlen := (List.subperm_of_subset hnd hsub).length_le
  have := s.length_numbers_le o
  simp only [List.length_map, List.length_range] at hlen
  omega

/-! ### Admission -/

/-- The records and the queue within their bounds, as an admission finds them. -/
def State.Bounded (s : State) : Prop := s.recordsWf = true ∧ s.queue.Fits 0

theorem State.Bounded.portFree : PortFree State.Bounded where
  congr s t hq _ _ _ _ hr h := ⟨by simpa [State.recordsWf, State.recOf, hr] using h.1, by rw [hq]; exact h.2⟩
  unwait s o n h := by
    refine ⟨by simpa [State.recordsWf, State.recOf] using h.1, ?_⟩
    have h1 := h.2.setQueued (directOrigin o)
      ((s.queue.queued.get (directOrigin o)).map (·.unwait n)) (m := 0) (by simp)
    exact h1.setActive (s.queue.active.map fun k => if k.origin = directOrigin o then k.unwait n else k) (by simp)

theorem State.Bounded.ring_le (h : s.Bounded) (o : Direct) : (s.recOf o).ring.length ≤ 8 := by
  have h8 : Config.maxRing = 8 := rfl
  have := h.1
  simp only [State.recordsWf, Records.wf, Bool.and_eq_true, decide_eq_true_eq, h8] at this
  cases o
  · exact this.1.1.1.1.1.1.1
  · exact this.1.2.1.1.1.1.1
  · exact this.2.1.1.1.1.1

/-- The queue after an admission: the ticket at the tail, and the counter past its number (R3, R6). -/
theorem State.admitTicket_queue (s : State) (o : Direct) (r : Request) (w : Bool) : (s.admitTicket o r w).queue =
    { s.queue with
      queued := s.queue.queued.set (directOrigin o) (s.queuedOf (directOrigin o) ++
        [{ s.newTicket (directOrigin o) (s.ticketNumber o) r with waited := w }])
      counter := s.queue.counter.set o (nextNumber (s.ticketNumber o)) } := by
  simp [State.admitTicket, State.enqueue, State.newTicket, State.queuedOf]

theorem State.Apart.admitTicket (h : s.Apart) (hb : s.Bounded) (o : Direct) (r : Request) (w : Bool) :
    (s.admitTicket o r w).Apart := by
  obtain ⟨h1, h2⟩ := hb.2.counters o
  have hin := (State.ticketNumber_spec o h1 h2 (by simpa using hb.2.total) (hb.ring_le o)).1
  rw [← State.numbersOf_directOrigin] at hin
  have hc : (s.setQueue { s.queue with counter := s.queue.counter.set o (nextNumber (s.ticketNumber o)) }).Apart :=
    h.relabel _ (fun _ => rfl) rfl rfl
  exact hc.setQueued (k := { s.newTicket (directOrigin o) (s.ticketNumber o) r with waited := w }) hin
    (fun hp => absurd hp (directOrigin_ne_p o)) _ (List.perm_append_singleton _ _)

theorem State.Apart.submit (h : s.Apart) (hb : s.Bounded) (o : Direct) (req : Except Status Request) :
    (s.submit o req).1.Apart := by
  rcases s.submit_cases o req with h1 | ⟨r, -, h1⟩ <;> rw [h1]
  · exact h
  · exact h.admitTicket hb o r false

theorem State.Apart.transact (h : s.Apart) (hb : s.Bounded) (o : Direct) (req : Except Status Request) :
    (s.transact o req).1.Apart := by
  rcases s.transact_cases o req with h1 | ⟨r, -, h1⟩ <;> rw [h1]
  · exact h
  · exact h.admitTicket hb o r true

/-! ### The other owners' acts -/

/-- The ACTIVE ticket under another mark, with its name. -/
theorem State.Apart.relabelActive (h : s.Apart) {k k' : Ticket} (ha : s.queue.active = some k)
    (hk : k'.name = k.name) : (s.setActive (some k')).Apart :=
  h.relabel _ (fun _ => rfl) (by simp [ha, hk]) rfl

theorem State.Apart.cancel (h : s.Apart) (o : Direct) (n : Nat) : (s.cancel o n).1.Apart := by
  rcases s.cancel_cases o n with ⟨k, hk, h1⟩ | ⟨k, ha, h1⟩ | h1 <;> rw [h1]
  · exact h.endQueued (State.findQueued_some hk).1 _
  · exact h.relabelActive ha rfl
  · exact h

/-- Records acknowledged leave the ring, and DONE_WAITING tickets move into it under their numbers (R79, R81). -/
theorem State.Apart.acknowledge (h : s.Apart) (o : Direct) (k : Nat) : (s.acknowledge o k).Apart := by
  unfold State.acknowledge
  dsimp only
  have h1 : ((s.setRec o { s.recOf o with
      ring := (s.recOf o).ring.drop k ++ ((s.waitingOf o).take k).map (·.waitingRecord) }).setWaiting o
        ((s.waitingOf o).drop k)).Apart := by
    refine h.mono (fun q => by simpa [State.queuedOf] using h.owned q) (fun p j hj => ?_) (fun q => ?_) (by simp) (by simp)
    · rcases eq_or_ne p o with rfl | hp
      · rw [State.waitingOf_setWaiting] at hj
        exact h.ended p j (List.mem_of_mem_drop hj)
      · simp only [State.waitingOf, State.setWaiting_fields, State.setRec_fields, PerDirect.get_set_of_ne _ _ _ _ hp] at hj
        exact h.ended p j hj
    · rw [State.numbersOf_ended (s := s) (by simp) (by simp), State.numbersOf]
      refine (List.subperm_append_left _).2 ?_
      rcases eq_or_ne q (directOrigin o) with rfl | hq
      · simp only [State.endedNumbers_directOrigin, State.waitingOf_setWaiting]
        have hr : (((s.setRec o { s.recOf o with
            ring := (s.recOf o).ring.drop k ++ ((s.waitingOf o).take k).map (·.waitingRecord) }).setWaiting o
              ((s.waitingOf o).drop k)).recOf o).ring.map (·.number) =
            ((s.recOf o).ring.drop k).map (·.number) ++ ((s.waitingOf o).take k).map (·.number) := by
          simp [State.recOf, Ticket.waitingRecord, Ticket.record, Function.comp_def]
        rw [hr, List.map_drop, List.map_drop, List.map_take]
        generalize (s.waitingOf o).map (·.number) = w
        generalize (s.recOf o).ring.map (·.number) = x
        have hperm : (w.drop k ++ (x.drop k ++ w.take k)).Perm (w ++ x.drop k) :=
          (List.perm_append_comm.append_left _).trans (by
            rw [← List.append_assoc]
            exact (List.perm_append_comm.append_right _).trans (by rw [List.take_append_drop]))
        exact hperm.subperm.trans (List.Sublist.append_left (List.drop_sublist k x) w).subperm
      · rw [State.endedNumbers_eq (s := s) hq fun p hp => ⟨by simp [State.waitingOf, PerDirect.get_set_of_ne _ _ _ _ hp], by
          simp [State.recOf, PerDirect.get_set_of_ne _ _ _ _ hp]⟩]
  split_ifs
  · exact h1
  · exact h1.departed

theorem State.Apart.collect (h : s.Apart) (o : Direct) (k n : Nat) : (s.collect o k n).1.Apart := by
  unfold State.collect
  split_ifs
  · exact h
  · exact (h.acknowledge o k).same (by simp) (State.ring_setRec o _ rfl) (by simp) (by simp)

theorem State.Apart.fetchNotices (h : s.Apart) (o : Direct) (k : Nat) (b : Bool) (n : Nat) :
    (s.fetchNotices o k b n).1.Apart := by
  unfold State.fetchNotices
  split_ifs
  · exact h
  · exact h.same (by simp) (State.ring_setRec o _ rfl) (by simp) (by simp)

/-! ### The mirror's commands -/

/-- An EMPTY entry has neither a due mark nor a poll ticket that counts. -/
theorem State.Apart.of_empty (h : s.Apart) {i : Nat} (he : s.entry i = none) :
    i ∉ s.dueMarks.map (·.index) ∧ i ∉ s.numbersOf .p := by
  have hp : s.postedMark i = none := by simp [State.postedMark, he]
  exact ⟨fun hi => by simp [h.idle i hi] at hp, fun hi => by simp [h.posted i hi] at hp⟩

/-- An entry's poll ticket is withdrawn: none of it counts any more (R19). -/
theorem State.Apart.withdrawPoll (h : s.Apart) (i : Nat) :
    (s.withdrawPoll i).Apart ∧ i ∉ (s.withdrawPoll i).numbersOf .p := by
  unfold State.withdrawPoll
  split_ifs with hq
  · simp only [State.pollQueued, List.any_eq_true, decide_eq_true_eq] at hq
    obtain ⟨k, hk, rfl⟩ := hq
    exact h.dequeue hk
  · have hq' : i ∉ (s.queuedOf .p).map (·.number) := by simpa [State.pollQueued] using hq
    have ha : ∀ q, activeNumbers (s.queue.orphanPoll i).active q =
        if q = .p then (activeNumbers s.queue.active q).filter (· ≠ i) else activeNumbers s.queue.active q := fun q => by
      cases hact : s.queue.active with
      | none => simp [Queue.orphanPoll, hact]
      | some k =>
        by_cases hk : k.origin = .p ∧ k.number = i
        · simp only [Queue.orphanPoll, hact, Option.map_some, hk, and_self, if_true, activeNumbers_some]
          by_cases hqp : q = .p
          · subst hqp; simp [Ticket.counts, hk, apply_ite]
          · simp [Ne.symm hqp, hqp]
        · simp only [Queue.orphanPoll, hact, Option.map_some, hk, if_false, activeNumbers_some]
          split_ifs with h1 h2
          · obtain ⟨rfl, -⟩ := h1
            have : k.number ≠ i := fun hn => hk ⟨h2, hn⟩
            simp [this]
          · rfl
          · rfl
          · rfl
    have hn : ∀ q, (s.setQueue (s.queue.orphanPoll i)).numbersOf q =
        (s.queuedOf q).map (·.number) ++ activeNumbers (s.queue.orphanPoll i).active q ++ s.endedNumbers q := fun q => by
      have he : (s.setQueue (s.queue.orphanPoll i)).endedNumbers q = s.endedNumbers q :=
        State.endedNumbers_congr q rfl (fun _ => rfl)
      rw [State.numbersOf, he]
      rfl
    refine ⟨h.mono (fun q => by simpa [State.queuedOf, Queue.orphanPoll] using h.owned q)
      (fun o => by simpa [State.waitingOf, Queue.orphanPoll] using h.ended o) (fun q => ?_) (by simp) (by simp), ?_⟩
    · rw [hn, ha, State.numbersOf]
      split_ifs
      · exact ((List.filter_sublist.append_left _).append_right _).subperm
      · exact List.Subperm.refl _
    · rw [hn, ha, if_pos rfl]
      simp only [List.mem_append, List.mem_filter, decide_eq_true_eq, not_or, State.endedNumbers, originDirect]
      exact ⟨⟨hq', fun hx => hx.2 rfl⟩, by simp⟩

/-- An entry whose poll ticket has been withdrawn is replaced, and its due mark cleared. -/
theorem State.Apart.replaceEntry (h : s.Apart) (i : Nat) (x : Option Entry) (hin : i ∉ s.numbersOf .p) : ((s.setEntry i x).clearDue i).Apart := by
  have hc := h.clearDue i
  have h1 : ((s.clearDue i).setEntry i x).Apart := by
    refine hc.setEntry i x (fun hi => absurd hi (State.not_mem_clearDue i)) (fun hi => absurd ?_ hin)
    rwa [State.numbersOf_congr (s := s) .p (by simp [State.queuedOf]) (by simp)
      (State.endedNumbers_congr .p (by simp) (fun o => by simp [State.recOf]))] at hi
  exact h1.same (by simp) (fun o => by simp [State.recOf]) (by simp) (by simp [State.clearDue])

theorem State.Apart.fallsDue (h : s.Apart) (i : Nat) : (s.fallsDue i).Apart := (h.takeDue i false).retryPosts

theorem State.Apart.defineNew (h : s.Apart) {i : Nat} (he : s.entry i = none) (o : Direct) (p : Definition) :
    (s.defineNew o i p).Apart := by
  obtain ⟨hd, hn⟩ := h.of_empty he
  exact State.Apart.fallsDue (h.setEntry i _ (fun hi => absurd hi hd) (fun hi => absurd hi hn)) i

theorem State.Apart.redefine (h : s.Apart) (o : Direct) (i : Nat) (p : Definition) (old : Entry) :
    (s.redefine o i p old).Apart := by
  obtain ⟨hw, hin⟩ := h.withdrawPoll i
  have h1 : (s.redefined o i p old).Apart := hw.replaceEntry i _ hin
  unfold State.redefine
  dsimp only
  split_ifs
  · exact h1.departed.fallsDue i
  · exact h1.fallsDue i

theorem State.entry_of_firstEmpty {i : Nat} (h : s.firstEmpty = some i) : s.entry i = none := by
  obtain ⟨hi, hx, -⟩ := List.findIdx?_eq_some_iff_getElem.1 h
  simp [State.entry, List.getElem?_eq_getElem hi, Option.isNone_iff_eq_none.1 hx]

theorem State.Apart.mirrorDefine (h : s.Apart) (o : Direct) (x : Byte) (p : Definition) :
    (s.mirrorDefine o x p).1.Apart := by
  unfold State.mirrorDefine
  split
  · exact h
  · split
    · exact h
    · split
      · split
        · exact h.defineNew (State.entry_of_firstEmpty (by assumption)) o p
        · exact h
      · unfold State.defineAt
        split
        · exact h.defineNew (by assumption) o p
        · split_ifs
          · exact h.redefine o _ p _
          · exact h

theorem State.Apart.dropEntry (h : s.Apart) (i : Nat) (e : Entry) : (s.dropEntry i e).Apart := by
  obtain ⟨hw, hin⟩ := h.withdrawPoll i
  have h1 : ((s.withdrawPoll i).notifyEach (e.subs.set e.owner false) .entryDropped (.entry i) []).Apart :=
    hw.same (by simp) (State.ring_notifyEach _ _ _ _) (by simp) (by simp)
  have hn : ((s.withdrawPoll i).notifyEach (e.subs.set e.owner false) .entryDropped (.entry i) []).numbersOf .p =
      (s.withdrawPoll i).numbersOf .p :=
    State.numbersOf_congr .p (by simp [State.queuedOf]) (by simp)
      (State.endedNumbers_congr .p (by simp) (State.ring_notifyEach _ _ _ _))
  have h2 := h1.replaceEntry i none (by rwa [hn])
  unfold State.dropEntry
  dsimp only
  split_ifs
  · exact h2.departed
  · exact h2

theorem State.Apart.mirrorDrop (h : s.Apart) (o : Direct) (x : Byte) : (s.mirrorDrop o x).1.Apart :=
  State.onEntry_keeps h x _ fun e _ => by
    split_ifs
    · exact h.dropEntry _ e
    · exact h

/-- An entry is changed but for its poll-posted mark. -/
theorem State.Apart.updateEntry (h : s.Apart) {i : Nat} {e e' : Entry} (he : s.entry i = some e)
    (hp : e'.posted = e.posted) : (s.setEntry i (some e')).Apart := by
  have hpm : (some e').map (·.posted) = s.postedMark i := by simp [State.postedMark, he, hp]
  exact h.setEntry i _ (fun hi => hpm.trans (h.idle i hi)) (fun hi => hpm.trans (h.posted i hi))

theorem State.Apart.setSubscribed (h : s.Apart) (o : Direct) (x : Byte) (on : Bool) :
    (s.setSubscribed o x on).1.Apart :=
  State.onEntry_keeps h x _ fun _ he => h.updateEntry he rfl

theorem State.Apart.refresh (h : s.Apart) (x : Byte) : (s.refresh x).1.Apart :=
  State.onEntry_keeps h x _ fun e he => by
    split_ifs with hp
    · exact h
    · unfold State.post
      cases s.noPlace .p with
      | some status => exact h
      | none => exact h.post he (by simpa using hp)

theorem State.Apart.allFallDue (h : s.Apart) (due : Time) : (s.allFallDue due).Apart := by
  refine State.Apart.retryPosts (foldl_keeps _ _ (fun u i hu => ?_) _ h)
  unfold State.takeDueOf
  split_ifs
  · exact hu.takeDue i _
  · exact hu

/-! ### The bus and the rings -/

theorem State.ring_busBack (o : Direct) : (s.busBack.recOf o).ring = (s.recOf o).ring := by
  unfold State.busBack
  split_ifs
  · rw [State.ring_notifyEach]; simp [State.recOf]
  · rfl

theorem State.ring_becomeFree (o : Direct) : (s.becomeFree.recOf o).ring = (s.recOf o).ring := by
  unfold State.becomeFree State.engineHearsFree
  split_ifs
  · simp [State.recOf]
  · split
    · simp [State.recOf]
    · rw [State.ring_busBack]; simp [State.recOf]
    · simp [State.recOf]

theorem State.ring_enterStuck (o : Direct) : (s.enterStuck.recOf o).ring = (s.recOf o).ring := by
  unfold State.enterStuck
  dsimp only
  split_ifs
  · simp [State.recOf]
  · rw [State.ring_notifyEach]; simp [State.recOf]

theorem State.Apart.becomeFree (h : s.Apart) : s.becomeFree.Apart :=
  h.same (by simp) (fun _ => State.ring_becomeFree _) (by simp) (by simp)

theorem State.Apart.enterStuck (h : s.Apart) : s.enterStuck.Apart :=
  h.same (by simp) (fun _ => State.ring_enterStuck _) (by simp) (by simp)

/-- A change of the engine, the monitor, the settings or the leases alone. -/
theorem State.Apart.of_records (h : s.Apart) (hq : t.queue = s.queue) (hr : t.records = s.records)
    (hm : t.mirror = s.mirror) (hd : t.dueMarks = s.dueMarks) : t.Apart :=
  h.same hq (fun o => by simp only [State.recOf, hr]) hm hd

/-! ### Settings, ORIGIN RESET, leases -/

theorem State.Apart.settingWrite (h : s.Apart) (o : Direct) (n : Nat) (v : Field) : (s.settingWrite o n v).1.Apart := by
  unfold State.settingWrite
  split_ifs
  · have h1 : ((s.setSettings (s.settings.set n v)).tellSetting o n (s.settings.get n ≠ some v)).Apart := by
      have h0 : (s.setSettings (s.settings.set n v)).Apart := h.of_records (by simp) (by simp) (by simp) (by simp)
      unfold State.tellSetting
      split_ifs
      · exact h0.same (by simp) (State.ring_notifyEach _ _ _ _) (by simp) (by simp)
      · exact h0
    have h2 : (((s.setSettings (s.settings.set n v)).tellSetting o n (s.settings.get n ≠ some v)).quotaWritten n
        s.settings).Apart := by
      unfold State.quotaWritten
      split_ifs
      · exact h1.retryPosts
      · exact h1
    change (State.writeSetting s o n v).Apart
    unfold State.writeSetting State.idleDetectWritten
    split_ifs
    · exact h2.becomeFree
    · exact h2
  · exact h

/-- A ticket orphaned by its origin's reset: a direct ticket keeps its name (R19, R27). -/
theorem Ticket.name_orphanedBy (k : Ticket) (o : Direct) : (k.orphanedBy o).name = k.name := by
  unfold Ticket.orphanedBy
  split_ifs with h
  · simp [Ticket.name, Ticket.counts, h, directOrigin_ne_p]
  · rfl

theorem State.Apart.queueReset (h : s.Apart) (o : Direct) : (s.queueReset o).Apart := by
  have h1 : (s.setQueue (s.queue.originReset o)).Apart := by
    refine h.mono (fun q k hk => ?_) (fun p k hk => ?_) (fun q => ?_) (by simp) (by simp)
    · rcases eq_or_ne q (directOrigin o) with rfl | hq
      · simp [State.queuedOf, Queue.originReset] at hk
      · simp only [State.queuedOf, Queue.originReset, State.setQueue_fields, PerOrigin.get_set_of_ne _ _ _ _ hq] at hk
        exact h.owned q k hk
    · rcases eq_or_ne p o with rfl | hp
      · simp [State.waitingOf, Queue.originReset] at hk
      · simp only [State.waitingOf, Queue.originReset, State.setQueue_fields, PerDirect.get_set_of_ne _ _ _ _ hp] at hk
        exact h.ended p k hk
    · have ha : activeNumbers (s.queue.originReset o).active q = activeNumbers s.queue.active q :=
        activeNumbers_congr (by simp [Queue.originReset, Function.comp_def, Ticket.name_orphanedBy]) q
      have hr : ∀ p, ((s.setQueue (s.queue.originReset o)).recOf p).ring = (s.recOf p).ring := fun p => rfl
      rw [State.numbersOf, State.numbersOf]
      change (_ ++ activeNumbers (s.queue.originReset o).active q ++ _ : List Nat).Subperm _
      rw [ha]
      refine List.Sublist.subperm (List.Sublist.append (List.Sublist.append ?_ (List.Sublist.refl _)) ?_)
      · rcases eq_or_ne q (directOrigin o) with rfl | hq
        · simp [State.queuedOf, Queue.originReset]
        · simp [State.queuedOf, Queue.originReset, PerOrigin.get_set_of_ne _ _ _ _ hq]
      · rcases eq_or_ne q (directOrigin o) with rfl | hq
        · rw [State.endedNumbers_directOrigin, State.endedNumbers_directOrigin, hr]
          simp [State.waitingOf, Queue.originReset]
        · rw [State.endedNumbers_eq (s := s) hq fun p hp => ⟨by
            simp [State.waitingOf, Queue.originReset, PerDirect.get_set_of_ne _ _ _ _ hp], hr p⟩]
  unfold State.queueReset
  dsimp only
  split_ifs
  · exact h1.departed
  · exact h1

theorem State.entry_unsubscribeAll (o : Direct) (i : Nat) : (s.unsubscribeAll o).entry i =
    (s.entry i).map fun e => { e with subs := e.subs.set o false } := by
  simp only [State.entry, State.unsubscribeAll, State.setMirror_fields, List.getElem?_map]
  cases s.mirror[i]? with
  | none => rfl
  | some x => cases x <;> rfl

theorem State.Apart.unsubscribeAll (h : s.Apart) (o : Direct) : (s.unsubscribeAll o).Apart :=
  h.of_names (fun _ => rfl) rfl (fun _ => rfl) (fun _ => rfl) (by simp [State.unsubscribeAll])
    (by funext i; simp [State.postedMark, State.entry_unsubscribeAll, Function.comp_def]) rfl

/-- A ring is emptied. -/
theorem State.Apart.emptyRecords (h : s.Apart) (o : Direct) : (s.setRec o Records.empty).Apart := by
  refine h.mono (fun q => by simpa [State.queuedOf] using h.owned q)
    (fun p => by simpa [State.waitingOf] using h.ended p) (fun q => ?_) (by simp) (by simp)
  rw [State.numbersOf_ended (s := s) (by simp) (by simp), State.numbersOf]
  refine (List.subperm_append_left _).2 ?_
  rcases eq_or_ne q (directOrigin o) with rfl | hq
  · rw [State.endedNumbers_directOrigin, State.endedNumbers_directOrigin]
    simp [State.waitingOf, State.recOf, Records.empty, (List.sublist_append_left _ _).subperm]
  · rw [State.endedNumbers_eq (s := s) hq fun p hp => ⟨by simp [State.waitingOf], by
      rw [State.recOf_setRec_of_ne _ _ _ _ hp]⟩]

theorem State.Apart.originReset (h : s.Apart) (o : Direct) : (s.originReset o).Apart := by
  have h1 : ((s.queueReset o).leaseReset o).Apart :=
    (h.queueReset o).of_records (by simp [State.leaseReset]) (by simp [State.leaseReset]) (by simp [State.leaseReset])
      (by simp [State.leaseReset])
  refine State.Apart.emptyRecords (foldl_keeps (State.dropOwned o) _ (fun u i hu => ?_) _ (h1.unsubscribeAll o)) o
  unfold State.dropOwned
  split
  · split_ifs
    · exact hu.dropEntry i _
    · exact hu
  · exact hu

theorem State.Apart.expireLease (h : s.Apart) (l : Lease) : (s.expireLease l).Apart := by
  have h1 : (s.setLeases (leasesWithout l.addr s.leases)).Apart := h.of_records (by simp) (by simp) (by simp) (by simp)
  have h2 : ((s.setLeases (leasesWithout l.addr s.leases)).setQueue (s.queue.markLeaseEnded l)).Apart := by
    refine h1.relabel _ (fun _ => rfl) ?_ rfl
    cases ha : s.queue.active with
    | none => simp [Queue.markLeaseEnded, ha]
    | some k =>
      simp only [Queue.markLeaseEnded, ha, Option.map_some, State.setLeases_fields]
      split_ifs <;> rfl
  exact h2.same (by simp [State.expireLease]) (State.ring_notify _ _ _ _) (by simp [State.expireLease])
    (by simp [State.expireLease])

/-! ### A ticket's way on the bus -/

theorem State.Apart.enterPhase (h : s.Apart) {k k' : Ticket} (ha : s.queue.active = some k) (hk : k'.name = k.name)
    (st : EngineState) (bit : Option Nat) (f : Option Result) : (s.enterPhase st bit f k').Apart :=
  (h.relabelActive ha hk).of_records (by simp [State.enterPhase]) (by simp) (by simp) (by simp)

theorem State.Apart.toStopping (h : s.Apart) {k k' : Ticket} (ha : s.queue.active = some k) (hk : k'.name = k.name)
    (r : Result) : (s.toStopping r k').Apart := h.enterPhase ha hk _ _ _

theorem State.Apart.afterAddress (h : s.Apart) {k : Ticket} (ha : s.queue.active = some k) (ack : Bool) :
    (s.afterAddress k ack).Apart := by
  unfold State.afterAddress
  split
  · split_ifs
    · exact h.enterPhase ha rfl _ _ _
    all_goals exact h.toStopping ha rfl _
  · exact h.toStopping ha rfl _
  all_goals
    split_ifs
    · exact h.toStopping ha rfl _
    · exact h.enterPhase ha rfl _ _ _
    · exact h.toStopping ha rfl _

theorem Ticket.name_countWrite (k : Ticket) : k.countWrite.name = k.name := rfl

theorem State.Apart.afterWriteByte (h : s.Apart) {k : Ticket} (ha : s.queue.active = some k) (ack : Bool) :
    (s.afterWriteByte k ack).Apart := by
  unfold State.afterWriteByte State.afterAckedWrite
  split_ifs
  · exact h.toStopping ha k.name_countWrite _
  · exact h.enterPhase ha k.name_countWrite _ _ _
  · exact h.enterPhase ha k.name_countWrite _ _ _
  · exact h.toStopping ha k.name_countWrite _
  all_goals exact h.toStopping ha rfl _

theorem State.Apart.afterRestart (h : s.Apart) {k : Ticket} (ha : s.queue.active = some k) (ack : Bool) :
    (s.afterRestart k ack).Apart := by
  unfold State.afterRestart
  split_ifs
  · exact h.enterPhase ha rfl _ _ _
  all_goals exact h.toStopping ha rfl _

theorem State.Apart.afterReadByte (h : s.Apart) {k k' : Ticket} (ha : s.queue.active = some k) (hk : k'.name = k.name) :
    (s.afterReadByte k').Apart := by
  unfold State.afterReadByte
  split_ifs
  · exact h.toStopping ha hk _
  · exact h.enterPhase ha hk _ _ _
  · exact h.toStopping ha hk _

theorem State.Apart.completeStop (h : s.Apart) {k : Ticket} (ha : s.queue.active = some k) (r : Result) :
    (s.completeStop k r).Apart :=
  State.Apart.endActive (h.of_records (by simp [State.ownStop]) (by simp [State.ownStop]) (by simp [State.ownStop])
    (by simp [State.ownStop])) (by simpa [State.ownStop] using ha) rfl r

theorem State.Apart.misplaced (h : s.Apart) {k : Ticket} (ha : s.queue.active = some k) (c : Cond) (cut : Sampled) :
    (s.misplaced c cut k).Apart :=
  State.Apart.endActive (h.of_records (by simp) (by simp) (by simp) (by simp)) (by simpa using ha)
    (k.name_withCut cut) _

theorem State.Apart.timeOut (h : s.Apart) {k : Ticket} (ha : s.queue.active = some k) (cut : Sampled) (r : Result)
    (scl sda : Bool) : (s.timeOut k cut r scl sda).Apart :=
  (h.endActive ha (k.name_withCut cut) r).of_records (by simp [State.timeOut]) (by simp [State.timeOut])
    (by simp [State.timeOut]) (by simp [State.timeOut])

theorem State.Apart.foreignCondition (h : s.Apart) (c : Cond) : (s.foreignCondition c).Apart := by
  unfold State.foreignCondition
  split
  · exact h.misplaced (State.inTransfer_eq_some.1 (by assumption)).2 c .nothing
  · exact h.of_records (by simp) (by simp) (by simp) (by simp)

theorem State.Apart.loseArbitration (h : s.Apart) {k : Ticket} (ha : s.queue.active = some k) (cut : Sampled) :
    (s.loseArbitration k cut).Apart := by
  unfold State.loseArbitration
  generalize hu : ((((s.setEngine (s.engine.letGo .backoff)).setFreeTime none).monitorTo .busyForeign).see true false)
    = u
  have h1 : u.Apart := h.of_records (by simp [← hu]) (by simp [← hu]) (by simp [← hu]) (by simp [← hu])
  have hau : u.queue.active = some k := by simpa [← hu] using ha
  have h2 : u.giveBack.Apart := h1.clearActive.relabel _ (fun _ => rfl) rfl rfl
  obtain ⟨ho, hn, hc⟩ := Ticket.name_eq_iff.1 (k.name_withCut cut)
  refine h2.lost (fun hcounts => ?_) (fun hp hcounts => ?_)
  · rw [ho, hn]
    exact h1.takeActive hau (hc ▸ hcounts)
  · rw [hn]
    exact h1.active_posted hau (ho ▸ hp) (hc ▸ hcounts)

/-- A choice's ticket goes from its order to the bus under its name. -/
theorem State.Apart.startTicket (h : s.Apart) {c : Choice} (hc : s.choose = some c) : (s.startTicket c).Apart := by
  have hm := (State.eligible_some (State.choose_some hc).1).1
  have h0 := h.clearActive
  have hm0 : c.ticket ∈ (s.setActive none).queuedOf c.origin := by simpa [State.queuedOf] using hm
  obtain ⟨h1, hin⟩ := h0.dequeue hm0
  have ho : c.ticket.origin = c.origin := h.owned _ _ hm
  have h2 := h1.setActive (by simp [State.dequeue]) (k := c.ticket.clearProgress) (by
    change c.ticket.number ∉ State.numbersOf _ c.ticket.origin; rwa [ho]) (fun hp => by
      have hq : c.origin = .p := ho ▸ hp
      rw [State.postedMark_congr (s := s) (by simp)]
      refine h.posted _ ?_
      rw [hq] at hm
      simp only [State.numbersOf, List.mem_append]
      exact .inl (.inl (List.mem_map_of_mem (f := (·.number)) hm)))
  have h3 : (((s.setActive none).dequeue c.origin c.ticket.number).setActive (some c.ticket.clearProgress)).queue =
      { s.queue with
        queued := s.queue.queued.set c.origin (without c.ticket.number (s.queuedOf c.origin))
        active := some c.ticket.clearProgress } := by simp [State.dequeue, State.queuedOf]
  have h4 := h2.relabel { s.queue with
      queued := s.queue.queued.set c.origin (without c.ticket.number (s.queuedOf c.origin))
      active := some c.ticket.clearProgress, current := c.origin, credit := c.credit }
    (fun _ => by rw [h3]) (by rw [h3]) (by rw [h3])
  exact h4.of_records (by rw [State.startTicket_queue]; simp) (by simp [State.startTicket, State.takeChoice])
    (by simp [State.startTicket, State.takeChoice]) (by simp [State.startTicket, State.takeChoice])

/-! ### Time and reset -/

theorem getElem?_tickEntries (marks : List DueMark) (now : Time) (l : List (Option Entry)) : ∀ n i : Nat,
    (tickEntries marks now n l)[i]? = (l[i]?).map (Option.map fun e => e.tick (marks.any (·.index = n + i)) now) := by
  induction l with
  | nil => simp [tickEntries]
  | cons x xs ih =>
    intro n i
    cases i with
    | zero => simp [tickEntries]
    | succ i => simp [tickEntries, ih, show n + 1 + i = n + (i + 1) by omega]

theorem State.entry_tick (i : Nat) : s.tick.entry i = (s.entry i).map (·.tick (s.isDue i) (s.time + 1#16)) := by
  change ((tickEntries s.dueMarks (s.time + 1#16) 0 s.mirror)[i]?).join = _
  rw [getElem?_tickEntries, State.entry, State.isDue, Nat.zero_add]
  cases s.mirror[i]? with
  | none => rfl
  | some x => cases x <;> rfl

theorem length_tickEntries (marks : List DueMark) (now : Time) (l : List (Option Entry)) : ∀ n,
    (tickEntries marks now n l).length = l.length := by
  induction l with
  | nil => exact fun _ => rfl
  | cons x xs ih => exact fun n => by simp [tickEntries, ih]

theorem State.Apart.tick (h : s.Apart) : s.tick.Apart := by
  refine h.of_names (fun q => ?_) ?_ (fun _ => rfl) (fun _ => rfl) (length_tickEntries _ _ _ _) ?_ ?_
  · cases q <;> simp [State.tick, State.queuedOf, Queue.tick, PerOrigin.get, Ticket.tick, Ticket.name, Ticket.counts,
      Function.comp_def]
  · cases ha : s.queue.active <;> simp [State.tick, Queue.tick, ha, Ticket.tick, Ticket.name, Ticket.counts]
  · funext i
    simp [State.postedMark, State.entry_tick, Function.comp_def, Entry.tick]
  · simp [State.tick, DueMark.tick, Function.comp_def]

theorem State.Apart.atRelease (cause : ResetCause) (adsel : Nat) (scl sda : Bool) (l : List Instr) :
    (State.atRelease cause adsel scl sda l).Apart :=
  (State.apart_iff _).2 ⟨rfl, rfl, rfl⟩

theorem State.Apart.enterReset (s : State) (c : ResetCause) : (s.enterReset c).Apart :=
  (State.apart_iff _).2 ⟨rfl, rfl, rfl⟩

end Sys2Proof.Machine


namespace Sys2Proof.Machine

variable {s t : State}

/-- A BUS RECOVER changes the engine and the monitor alone. -/
theorem State.busRecover_frame (s : State) : s.busRecover.1.queue = s.queue ∧ s.busRecover.1.records = s.records ∧
    s.busRecover.1.mirror = s.mirror ∧ s.busRecover.1.dueMarks = s.dueMarks := by
  unfold State.busRecover
  split
  · split <;> simp [State.attemptRecovery, State.stopHeld]
  all_goals simp [State.attemptRecovery]

/-- A change of a line reaches the engine and the monitor alone. -/
theorem State.lineChanges_frame (s : State) (line : BusLine) (level : Bool) :
    (s.lineChanges line level).queue = s.queue ∧ (s.lineChanges line level).records = s.records ∧
      (s.lineChanges line level).mirror = s.mirror ∧ (s.lineChanges line level).dueMarks = s.dueMarks := by
  cases line <;> cases level <;> simp only [State.lineChanges, if_true, Bool.false_eq_true, if_false]
  · unfold State.sclFalls
    split <;> simp [State.clockFell]
  all_goals simp

/-- Every command keeps tickets told apart. -/
theorem exec_apart (i : Instr) (hb : s.Bounded) (hs : s.Apart) (h : exec i s = .next t) : t.Apart := by
  have hP := State.Apart.portFree
  have hQ := State.Bounded.portFree
  by_cases hp : isPortEvent i = true
  · exact hP.exec_portEvent i hp hs h
  cases i
  case submit => exact hP.command_where hQ hs hb (fun u hu hbu => hu.submit hbu _ _) h
  case transact => exact hP.command_where hQ hs hb (fun u hu hbu => hu.transact hbu _ _) h
  case cancel => exact hP.command hs (fun u hu => hu.cancel _ _) h
  case ticketQuery | mirrorRead | settingRead | status => exact hP.command hs (fun u hu => hu) h
  case collect => exact hP.command hs (fun u hu => hu.collect _ _ _) h
  case notices => exact hP.command hs (fun u hu => hu.fetchNotices _ _ _ _) h
  case lease =>
    refine hP.command hs (fun u hu => ?_) h
    obtain ⟨l, hl⟩ := u.lease_fst _ _ _ _
    rw [hl]
    exact hu.of_records (by simp) (by simp) (by simp) (by simp)
  case release =>
    refine hP.command hs (fun u hu => ?_) h
    obtain ⟨l, hl⟩ := u.release_fst _ _
    rw [hl]
    exact hu.of_records (by simp) (by simp) (by simp) (by simp)
  case mirrorDefine => exact hP.command hs (fun u hu => hu.mirrorDefine _ _ _) h
  case mirrorDrop => exact hP.command hs (fun u hu => hu.mirrorDrop _ _) h
  case subscribe => exact hP.command hs (fun u hu => hu.setSubscribed _ _ _) h
  case unsubscribe => exact hP.command hs (fun u hu => hu.setSubscribed _ _ _) h
  case refresh => exact hP.command hs (fun u hu => hu.refresh _) h
  case settingWrite => exact hP.command hs (fun u hu => hu.settingWrite _ _ _) h
  case originReset o =>
    exact hP.command (act := fun u => (u.originReset o, .answer .ok [])) hs (fun u hu => hu.originReset o) h
  case busRecover =>
    refine hP.command hs (fun u hu => ?_) h
    obtain ⟨hq, hr, hm, hd⟩ := u.busRecover_frame
    exact hu.of_records hq hr hm hd
  case ticketStart =>
    simp only [exec, execTicketStart] at h
    split at h
    · rename_i c hc
      exact hP.event hs (fun _ => hs.startTicket hc) h
    · exact hP.event hs (fun _ => hs) h
  case addressByteEnd ack =>
    simp only [exec, execAddressByteEnd] at h
    split at h
    · exact hP.event hs (fun _ => hs.afterAddress (State.running_eq_some (by assumption)).2 ack) h
    · exact hP.event hs (fun _ => hs) h
  case writeByteEnd ack =>
    simp only [exec, execWriteByteEnd] at h
    split at h
    · exact hP.event hs (fun _ => hs.afterWriteByte (State.running_eq_some (by assumption)).2 ack) h
    · exact hP.event hs (fun _ => hs) h
  case restartEnd ack =>
    simp only [exec, execRestartEnd] at h
    split at h
    · exact hP.event hs (fun _ => hs.afterRestart (State.running_eq_some (by assumption)).2 ack) h
    · exact hP.event hs (fun _ => hs) h
  case readByteEnd byte =>
    simp only [exec, execReadByteEnd] at h
    split at h
    · rename_i k hk
      refine hP.event hs (fun _ => ?_) h
      exact hs.afterReadByte (State.running_eq_some hk).2 rfl
    · exact hP.event hs (fun _ => hs) h
  case stopComplete =>
    simp only [exec, execStopComplete] at h
    split at h
    · exact hP.event hs (fun _ => hs.completeStop (State.running_eq_some (by assumption)).2 _) h
    · exact hP.event hs (fun _ => hs) h
  case arbitrationLost cut =>
    simp only [exec, execArbitrationLost] at h
    split at h
    · exact hP.event hs (fun _ => hs.loseArbitration (State.inTransfer_eq_some.1 (by assumption)).2 cut) h
    · exact hP.event hs (fun _ => hs) h
  case misplacedCondition c cut =>
    simp only [exec, execMisplacedCondition] at h
    split at h
    · exact hP.event hs (fun _ => hs.misplaced (State.inTransfer_eq_some.1 (by assumption)).2 c cut) h
    · exact hP.event hs (fun _ => hs) h
  case stretchTimeout cut scl sda =>
    simp only [exec, execStretchTimeout] at h
    split at h
    · exact hP.event hs (fun _ => hs.timeOut (State.inTransfer_eq_some.1 (by assumption)).2 cut _ scl sda) h
    · exact hP.event hs (fun _ => hs) h
  case transactionTimeout cut scl sda =>
    simp only [exec, execTransactionTimeout] at h
    split at h
    · exact hP.event hs (fun _ => hs.timeOut (State.inTransfer_eq_some.1 (by assumption)).2 cut _ scl sda) h
    · exact hP.event hs (fun _ => hs) h
  case recoveryClockRise sda =>
    exact hP.event hs (fun _ => hs.of_records (by simp [State.stopWait]) (by simp [State.stopWait])
      (by simp [State.stopWait]) (by simp [State.stopWait])) h
  case recoveryPulse sda =>
    refine hP.event hs (fun _ => ?_) h
    have h1 : (s.lineFalls.countPulse.see true sda).Apart := hs.of_records (by simp [State.countPulse])
      (by simp [State.countPulse]) (by simp [State.countPulse]) (by simp [State.countPulse])
    unfold State.afterPulse
    split_ifs
    · exact h1.of_records (by simp) (by simp) (by simp) (by simp)
    · exact h1.of_records (by simp) (by simp) (by simp) (by simp)
    · exact h1.enterStuck
  case stuckLimitExpiry =>
    refine hP.event hs (fun _ => State.Apart.enterStuck ?_) h
    unfold State.seeReleased
    split_ifs
    · exact hs.of_records (by simp) (by simp) (by simp) (by simp)
    · exact hs
  case recoveryStopComplete =>
    exact hP.event hs (fun _ => hs.same (by simp [State.completeRecovery])
      (fun o => by rw [State.completeRecovery, State.ring_busBack]; simp [State.recOf])
      (by simp [State.completeRecovery]) (by simp [State.completeRecovery])) h
  case recoveryStopFail =>
    exact hP.event hs (fun _ => State.Apart.enterStuck (hs.of_records (by simp) (by simp) (by simp) (by simp))) h
  case retryCountExpiry =>
    exact hP.event hs (fun _ => hs.of_records (by simp [State.attemptRecovery]) (by simp [State.attemptRecovery])
      (by simp [State.attemptRecovery]) (by simp [State.attemptRecovery])) h
  case foreignStart => exact hP.event hs (fun _ => hs.foreignCondition .start) h
  case stopSeen => exact hP.event hs (fun _ => hs.foreignCondition .stop) h
  case busFreeTimePassed => exact hP.event hs (fun _ => hs.becomeFree) h
  case idleDetect => exact hP.event hs (fun _ => hs.becomeFree) h
  case lineFallInFree line =>
    refine hP.event hs (fun _ => ?_) h
    cases line <;> exact hs.of_records (by simp [State.seeFall]) (by simp [State.seeFall]) (by simp [State.seeFall])
      (by simp [State.seeFall])
  case heldDataExpiry =>
    refine hP.event hs (fun _ => ?_) h
    unfold State.heldDataExpires
    split_ifs <;> exact hs.of_records (by simp [State.stopHeld]) (by simp [State.stopHeld]) (by simp [State.stopHeld])
      (by simp [State.stopHeld])
  case deadlineExpiry q n =>
    simp only [exec, execDeadlineExpiry] at h
    split at h
    · exact hP.event hs (fun _ => hs.endQueued (State.findQueued_some (by assumption)).1 _) h
    · exact hP.event hs (fun _ => hs) h
  case leaseExpiry a =>
    simp only [exec, execLeaseExpiry] at h
    split at h
    · exact hP.event hs (fun _ => hs.expireLease _) h
    · exact hP.event hs (fun _ => hs) h
  case pollDue i =>
    simp only [exec, execPollDue] at h
    split at h
    · exact hP.event hs (fun _ => hs.allFallDue _) h
    · exact hP.event hs (fun _ => hs) h
  case staleness i =>
    simp only [exec, execStaleness] at h
    split at h
    · rename_i e he
      refine hP.event hs (fun _ => ?_) h
      exact hs.updateEntry he rfl
    · exact hP.event hs (fun _ => hs) h
  case brokerTimeTick => exact hP.event hs (fun _ => hs.tick) h
  case brokerResetEntry c => cases h; exact State.Apart.enterReset s c
  case brokerResetRelease a b c d =>
    simp only [exec, execBrokerResetRelease] at h
    split at h <;> cases h
    · exact State.Apart.atRelease _ _ _ _ _
    · exact hs
  case dBusLineChange line level =>
    refine hP.event hs (fun _ => ?_) h
    obtain ⟨hq, hr, hm, hd⟩ := s.lineChanges_frame line level
    exact hs.of_records hq hr hm hd
  all_goals exact absurd rfl hp

/-- A step runs the command at the front of the queue of commands, or idles. -/
theorem step_cases (h : step s = .next t) : t = s ∨ ∃ i rest, exec i (s.setPending rest) = .next t := by
  unfold step at h
  split at h
  · exact .inr ⟨_, _, h⟩
  · cases h; exact .inl rfl

/-- Settles O59: what every command keeps, every step keeps. -/
theorem busStaysWellFormed : Obligations.BusStaysWellFormed := by
  refine ⟨fun s t hw hb h => ?_, fun s t hr hq hm hd ht h => ?_⟩
  · rw [State.busWf_iff] at hb ⊢
    rcases step_cases h with rfl | ⟨i, rest, he⟩
    · exact hb
    · exact exec_busOk i (s := s.setPending rest) (by simpa using hw) (State.BusOk.portFree.setPending rest hb) he
  · rw [Queue.wf_iff] at hq
    have ha : s.Apart := s.apart_iff.2 ⟨hm, hd, ht⟩
    rcases step_cases h with rfl | ⟨i, rest, he⟩
    · exact ht
    · exact (t.apart_iff.1 (exec_apart i (State.Bounded.portFree.setPending rest ⟨hr, hq⟩)
        (State.Apart.portFree.setPending rest ha) he)).2.2

end Sys2Proof.Machine

/-! SUBMIT and TRANSACT: the checks of R5 in their order, and the admission (R3, R5, R6, R143). -/

namespace Sys2Proof.Machine

variable {s : State}

/-! ### The checks of R5 -/

theorem kindOf_eq (kf : Byte) :
    kindOf kf = if 3 < kf.toNat % 8 then none else some (kindOfCode (kf.toNat % 8)) := by
  have h : kf.toNat % 8 < 8 := Nat.mod_lt _ (by omega)
  unfold kindOf
  generalize kf.toNat % 8 = c at h ⊢
  interval_cases c <;> rfl

theorem lengthsFit_kindOfCode (code w r : Nat) (h : code ≤ 3) :
    lengthsFit (kindOfCode code) w r = lengthsAllowed code w r := by
  interval_cases code <;> simp [lengthsFit, lengthsAllowed, kindOfCode, between, Bool.and_assoc]

theorem usableAddress_eq_false_iff (a : Byte) : usableAddress a = false ↔ a.toNat < 0x08 ∨ 0x77 < a.toNat := by
  simp only [usableAddress, Bool.and_eq_false_iff, decide_eq_false_iff_not]
  omega

/-- The request that passes checks 1 to 4 of R5 is the one asked for. -/
theorem State.asked_eq (s : State) (kf a q n : Byte) (data : List Byte) : s.asked kf a q n data =
    ⟨kindOfCode (kf.toNat % 8), a, data, n.toNat, kf.msb, queueLimitMs q s.settings.queueLimit⟩ := by
  simp [State.asked, queueLimitMs, BitVec.msb_eq_decide, Nat.mul_comm]

/-- An admission is what the checks of R5, in their order, make of it. -/
theorem State.admission_unpack (s : State) (o : Direct) (kf a q n : Byte) (data : List Byte) (w : Bool) :
    s.admission o (unpack kf a q n data s.settings.queueLimit) w =
      (s.refusal o kf a n data).elim (.ok (s.admitTicket o (s.asked kf a q n data) w)) .error := by
  have h24 : Config.maxTickets = 24 := rfl
  unfold State.refusal unpack
  rw [kindOf_eq]
  by_cases h1 : 3 < kf.toNat % 8
  · simp [h1, State.admission]
  · simp only [if_neg h1, ← lengthsFit_kindOfCode _ _ _ (show kf.toNat % 8 ≤ 3 by omega), ← usableAddress_eq_false_iff,
      State.asked_eq]
    by_cases h2 : kf.toNat / 8 % 16 = 0
    · cases h3 : usableAddress a
      · simp [h2, kindFlagsRight, State.admission]
      · cases h4 : lengthsFit (kindOfCode (kf.toNat % 8)) data.length n.toNat
        · simp [h2, kindFlagsRight, State.admission]
        · simp only [h2, kindFlagsRight, State.admission, State.noPlace, h24, decide_true, Bool.not_true,
            Bool.false_eq_true, Bool.true_eq_false, if_false, ne_eq, not_true_eq_false]
          by_cases h5 : 24 ≤ s.queue.total
          · simp [h5]
          · by_cases h6 : s.settings.quota (directOrigin o) ≤ s.queue.counted (directOrigin o) <;> simp [h5, h6]
    · simp [h2, kindFlagsRight, State.admission]

/-- A SUBMIT that a check of R5 refuses. -/
theorem State.submit_refused {o : Direct} {kf a n : Byte} {data : List Byte} {status : Status}
    (h : s.refusal o kf a n data = some status) (q : Byte) :
    s.submit o (unpack kf a q n data s.settings.queueLimit) = (s, refuse status) := by
  simp [State.submit, State.admission_unpack, h]

theorem State.transact_refused {o : Direct} {kf a n : Byte} {data : List Byte} {status : Status}
    (h : s.refusal o kf a n data = some status) (q : Byte) :
    s.transact o (unpack kf a q n data s.settings.queueLimit) = (s, refuse status) := by
  simp [State.transact, State.admission_unpack, h]

/-- A SUBMIT that passes the checks of R5. -/
theorem State.submit_admitted {o : Direct} {kf a n : Byte} {data : List Byte} (h : s.refusal o kf a n data = none)
    (q : Byte) : s.submit o (unpack kf a q n data s.settings.queueLimit) =
      (s.admitTicket o (s.asked kf a q n data) false, .answer .ok [byteOf (s.ticketNumber o),
        byteOf ((s.admitTicket o (s.asked kf a q n data) false).queuedOf (directOrigin o)).length]) := by
  simp [State.submit, State.admission_unpack, h]

theorem State.transact_admitted {o : Direct} {kf a n : Byte} {data : List Byte} (h : s.refusal o kf a n data = none)
    (q : Byte) : s.transact o (unpack kf a q n data s.settings.queueLimit) =
      (s.admitTicket o (s.asked kf a q n data) true, .onTicket (s.ticketNumber o)) := by
  simp [State.transact, State.admission_unpack, h]

/-! ### A command carried out, by what its act answers -/

/-- A command whose act refuses changes nothing but its port, where the refusal is answered. -/
theorem command_answers {o : Direct} {i : Instr} {act : State → State × Reply} {status : Status}
    {payload : List Byte} (hh : s.hands o i = true) (ha : act s = (s, .answer status payload)) :
    ∃ t, command o i act s = .next t ∧ (∀ p, p ≠ portPart o → p.same s t) ∧ t.answered o status payload :=
  ⟨_, command_hands s o i act hh, fun p hp => s.carryOut_quiet o act (by rw [ha]) p hp,
    s.answered_carryOut o act _ _ (by rw [ha])⟩

/-- Settles O9: the act of either command is the refusal, with the state as it was. -/
theorem refusedRequestMakesNoTicket : Obligations.RefusedRequestMakesNoTicket := fun o kf a q n data _ _ h =>
  ⟨fun hh => command_answers (i := .submit o kf a q n data) hh (State.submit_refused h q),
    fun hh => command_answers (i := .transact o kf a q n data) hh (State.transact_refused h q)⟩

/-! ### The admission -/

/-- An admission changes the queue alone. -/
theorem State.admitTicket_same (p : Part) (o : Direct) (r : Request) (w : Bool) (h : p ≠ .queue) :
    p.same s (s.admitTicket o r w) := by
  cases p <;> simp_all [Part.same, State.recOf]
  rename_i q; cases q <;> simp_all

/-- The queue after an admission, as the statement has it (R3, R6). -/
theorem State.admitTicket_withTicket (s : State) (o : Direct) (r : Request) (w : Bool) : (s.admitTicket o r w).queue =
    s.queue.withTicket o { s.newTicket (directOrigin o) (s.ticketNumber o) r with waited := w } := by
  rw [State.admitTicket_queue]
  rfl

/-- A command's queue is that of its act. -/
theorem State.carryOut_queue (o : Direct) (act : State → State × Reply) :
    (s.carryOut o act).queue = (act s).1.queue := by
  simp [State.carryOut]

/-- What the act leaves, the command leaves but for its port. -/
theorem State.carryOut_same (o : Direct) (act : State → State × Reply) (p : Part) (hp : p ≠ portPart o)
    (h : p.same s (act s).1) : p.same s (s.carryOut o act) :=
  Part.same_trans _ _ _ p (Part.same_trans _ _ _ p h ((act s).1.reply_same p o _ hp)) (Part.same_settle _ p)

/-- A port that waits on a ticket from now on: its slot, and its hold count as it stands (R143, R158, R173). -/
theorem State.awaitTicket_port (s : State) (o : Direct) (n : Nat) :
    (s.awaitTicket o n).slotOf o = .onTicket n (s.settings.holdLimit o) ∧
      (o = .c → (s.awaitTicket o n).portC.hold = some (countSince s.portC.since (s.settings.holdLimit .c))) ∧
      ∀ port, o = portOrigin port → ((s.awaitTicket o n).tw port).hold =
        if (s.tw port).target = .hold then some (countSince (s.tw port).since (s.settings.holdLimit o)) else none := by
  refine ⟨by cases o <;> rfl, fun h => by subst h; rfl, fun port h => ?_⟩
  cases port <;> subst h <;> rfl

theorem State.settle_port (s : State) (o : Direct) (port : TwPort) :
    s.settle.slotOf o = s.slotOf o ∧ s.settle.portC = s.portC ∧ s.settle.tw port = s.tw port := by
  refine ⟨by cases o <;> rfl, rfl, by cases port <;> rfl⟩

/-- A TRANSACT that is admitted leaves its port waiting. -/
theorem State.carryOut_onTicket {o : Direct} {act : State → State × Reply} {u : State} {n : Nat}
    (h : act s = (u, .onTicket n)) : s.carryOut o act = (u.awaitTicket o n).settle := by
  simp [State.carryOut, h, State.reply]

/-- Settles O8: the act is the admission, whose queue and number the lemmas above give. -/
theorem submitOrTransactAdmitsTicket : Obligations.SubmitOrTransactAdmitsTicket := by
  refine ⟨fun o kf a q n data s hh h => ?_, fun o kf a q n data s hh h => ?_, fun o s h1 h2 ht hr => ?_⟩
  · have ha := State.submit_admitted h q
    have hl : ((s.admitTicket o (s.asked kf a q n data) false).queuedOf (directOrigin o)).length =
        (s.queuedOf (directOrigin o)).length + 1 := by simp [State.queuedOf, State.admitTicket_queue]
    rw [hl] at ha
    let act : State → State × Reply := fun u => u.submit o (unpack kf a q n data u.settings.queueLimit)
    have hact : act s = _ := ha
    refine ⟨_, command_hands s o _ act hh, fun p hp hq => State.carryOut_same o act p hp ?_, ?_,
      s.answered_carryOut o act _ _ (by rw [hact])⟩
    · rw [hact]; exact State.admitTicket_same p o _ _ hq
    · rw [State.carryOut_queue, hact]; exact s.admitTicket_withTicket o _ false
  · have ha := State.transact_admitted h q
    let act : State → State × Reply := fun u => u.transact o (unpack kf a q n data u.settings.queueLimit)
    have hact : act s = _ := ha
    refine ⟨_, command_hands s o _ act hh, fun p hp hq => State.carryOut_same o act p hp ?_, ?_, ?_⟩
    · rw [hact]; exact State.admitTicket_same p o _ _ hq
    · rw [State.carryOut_queue, hact]; exact s.admitTicket_withTicket o _ true
    · rw [State.carryOut_onTicket hact]
      obtain ⟨hslot, hc, htw⟩ := (s.admitTicket o (s.asked kf a q n data) true).awaitTicket_port o (s.ticketNumber o)
      simp only [State.admit_frame] at hslot hc htw
      refine ⟨by rw [(State.settle_port _ o .a).1, hslot], fun ho => ?_, fun port ho => ?_⟩
      · rw [(State.settle_port _ o .a).2.1]; exact hc ho
      · have hp : (s.admitTicket o (s.asked kf a q n data) true).tw port = s.tw port := by
          cases port <;> simp [State.tw]
        rw [(State.settle_port _ o port).2.2, htw port ho, hp]
        rfl
  · exact State.ticketNumber_spec o h1 h2 ht hr

end Sys2Proof.Machine

/-! TICKET QUERY (R18), the scheduler's choice (R22 to R24) and the start of a ticket (R9, R42). -/

namespace Sys2Proof.Machine

variable {s : State}

/-! ### TICKET QUERY by the ticket's place (Table 1.5) -/

/-- The place of the first element that a test finds. -/
theorem findIdx_split {α : Type} (p : α → Bool) (pre post : List α) (x : α) (hx : p x = true)
    (hp : ∀ y ∈ pre, p y = false) : (pre ++ x :: post).findIdx p = pre.length := by
  induction pre with
  | nil => simp [List.findIdx_cons, hx]
  | cons y ys ih =>
    rw [List.cons_append, List.findIdx_cons, hp y (by simp), ih fun z hz => hp z (by simp [hz])]
    rfl

theorem State.ticketQuery_queued {o : Direct} {n : Nat} {k : Ticket} {pre post : List Ticket}
    (h : s.queuedOf (directOrigin o) = pre ++ k :: post) (hk : k.number = n) (hp : ∀ j ∈ pre, j.number ≠ n) :
    s.ticketQuery o n = [1#8, byteOf (pre.length + 1), if s.deferred k then 1#8 else 0#8] := by
  have hi := findIdx_split (fun t : Ticket => decide (t.number = n)) pre post k (by simp [hk]) (by simpa using hp)
  unfold State.ticketQuery
  rw [s.findQueued_split _ n pre post k h hk hp]
  dsimp only
  rw [h, hi]
  cases s.deferred k <;> rfl

/-- No ticket of that number is on the bus, of that origin and not orphaned. -/
theorem State.activeOf_eq_none {o : Direct} {n : Nat} (h : ∀ k, s.queue.active = some k →
    ¬(k.origin = directOrigin o ∧ k.number = n ∧ k.orphaned = false)) : s.activeOf o n = none :=
  Option.eq_none_iff_forall_ne_some.2 fun k hk => by
    obtain ⟨ha, hx⟩ := State.activeOf_eq_some.1 hk
    exact h k ha hx

theorem State.isWaiting_iff (o : Direct) (n : Nat) : s.isWaiting o n = true ↔ ∃ k ∈ s.waitingOf o, k.number = n := by
  simp [State.isWaiting]

theorem State.inRing_iff (o : Direct) (n : Nat) : s.inRing o n = true ↔ ∃ r ∈ (s.recOf o).ring, r.number = n := by
  simp [State.inRing]

theorem State.isWaiting_eq_false {o : Direct} {n : Nat} (h : ∀ k ∈ s.waitingOf o, k.number ≠ n) :
    s.isWaiting o n = false := by simpa [State.isWaiting] using h

theorem State.inRing_eq_false {o : Direct} {n : Nat} (h : ∀ r ∈ (s.recOf o).ring, r.number ≠ n) :
    s.inRing o n = false := by simpa [State.inRing] using h

section NotQueued

variable {o : Direct} {n : Nat} (hq : ∀ j ∈ s.queuedOf (directOrigin o), j.number ≠ n)
include hq

theorem State.ticketQuery_active {k : Ticket} (ha : s.queue.active = some k) (ho : k.origin = directOrigin o)
    (hn : k.number = n) (hk : k.orphaned = false) : s.ticketQuery o n = [2#8, 0#8, 0#8] := by
  simp only [State.ticketQuery, s.findQueued_none _ n hq, State.activeOf_eq_some.2 ⟨ha, ho, hn, hk⟩]
  rfl

theorem State.ticketQuery_waiting (ha : s.activeOf o n = none) (hw : s.isWaiting o n = true) :
    s.ticketQuery o n = [3#8, 0#8, 0#8] := by
  simp only [State.ticketQuery, s.findQueued_none _ n hq, ha, hw, if_true]
  rfl

theorem State.ticketQuery_inRing (ha : s.activeOf o n = none) (hw : s.isWaiting o n = false) {r : Record}
    {pre post : List Record} (hr : (s.recOf o).ring = pre ++ r :: post) (hn : r.number = n)
    (hp : ∀ x ∈ pre, x.number ≠ n) :
    s.ticketQuery o n = [4#8, 0#8, if pre.length < (s.recOf o).d then 2#8 else 0#8] := by
  have hi := findIdx_split (fun t : Record => decide (t.number = n)) pre post r (by simp [hn]) (by simpa using hp)
  have hin : s.inRing o n = true := (s.inRing_iff o n).2 ⟨r, by simp [hr], hn⟩
  simp only [State.ticketQuery, s.findQueued_none _ n hq, ha, hw, hin, if_true, Bool.false_eq_true, if_false]
  rw [hr, hi]
  by_cases hd : pre.length < (s.recOf o).d <;> simp [hd, queryPayload, QueryState.code, byteOf]

theorem State.ticketQuery_unknown (ha : s.activeOf o n = none) (hw : s.isWaiting o n = false)
    (hr : s.inRing o n = false) : s.ticketQuery o n = [0#8, 0#8, 0#8] := by
  simp only [State.ticketQuery, s.findQueued_none _ n hq, ha, hw, hr, Bool.false_eq_true, if_false]
  rfl

end NotQueued

/-- Settles O11: the answer by the ticket's place; the act leaves the state as it was. -/
theorem ticketQueryReportsPlace : Obligations.TicketQueryReportsPlace := by
  intro o n s hh
  obtain ⟨t, ht, hsame, hans⟩ := command_answers (i := .ticketQuery o n)
    (act := fun u => (u, .answer .ok (u.ticketQuery o n.toNat))) hh rfl
  refine ⟨t, ht, hsame, fun k pre post hq hk hp => ?_, fun hq => ⟨fun k ha ho hn hk => ?_, fun ha => ?_⟩⟩
  · rwa [State.ticketQuery_queued hq hk hp] at hans
  · rwa [State.ticketQuery_active hq ha ho hn hk] at hans
  · have ha' := State.activeOf_eq_none ha
    refine ⟨fun hw => ?_, fun hw => ⟨fun r pre post hr hn hp => ?_, fun hr => ?_⟩⟩
    · rwa [State.ticketQuery_waiting hq ha' ((s.isWaiting_iff o _).2 hw)] at hans
    · rwa [State.ticketQuery_inRing hq ha' (State.isWaiting_eq_false hw) hr hn hp] at hans
    · rwa [State.ticketQuery_unknown hq ha' (State.isWaiting_eq_false hw) (State.inRing_eq_false hr)] at hans

/-! ### The choice (R22 to R24) -/

/-- The rotation takes the first origin that has an eligible ticket (R24 case 2). -/
theorem State.rotate_split {pre post : List Origin} {q : Origin} {k : Ticket} (hp : ∀ x ∈ pre, s.eligible x = none)
    (hq : s.eligible q = some k) : s.rotate (pre ++ q :: post) = some ⟨q, s.settings.weight q - 1, k⟩ := by
  induction pre with
  | nil => simp [State.rotate, hq]
  | cons x xs ih =>
    simp only [List.cons_append, State.rotate, hp x (by simp)]
    exact ih fun y hy => hp y (by simp [hy])

/-- The current origin goes on while it has an eligible ticket and credit (R24 case 1). -/
theorem State.choose_current {k : Ticket} (h : s.eligible s.queue.current = some k) (hc : 0 < s.queue.credit) :
    s.choose = some ⟨s.queue.current, s.queue.credit - 1, k⟩ := by
  simp [State.choose, h, hc]

theorem State.choose_rotate (h : s.eligible s.queue.current = none ∨ s.queue.credit = 0) :
    s.choose = s.rotate (rotationFrom s.queue.current) := by
  unfold State.choose
  split
  · rename_i k hk
    rcases h with h | h
    · rw [hk] at h; cases h
    · simp [h]
  · rfl

theorem State.eligible_directOrigin (o : Direct) : s.eligible (directOrigin o) =
    match s.queuedOf (directOrigin o) with
    | [] => none
    | k :: _ => if s.deferred k then none else some k := by
  unfold State.eligible
  cases o <;> simp only [directOrigin] <;> split <;> simp_all

/-- P's eligible ticket is its first that is not deferred (R22). -/
theorem State.eligible_p {pre post : List Ticket} {k : Ticket} (h : s.queuedOf .p = pre ++ k :: post)
    (hp : ∀ j ∈ pre, s.deferred j = true) (hk : s.deferred k = false) : s.eligible .p = some k := by
  have hn : pre.find? (fun t => !s.deferred t) = none := by
    rw [List.find?_eq_none]; intro j hj; simp [hp j hj]
  simp [State.eligible, h, List.find?_append, hn, hk]

/-- A lease that does not defer a ticket to its address is the ticket's own origin's, or admits polls (R23, R104). -/
theorem Lease.of_defers_eq_false {l : Lease} {k : Ticket} (h : l.defers k = false) (ha : l.addr = k.addr) :
    (k.origin = .p ∧ l.polls = true) ∨ k.origin = directOrigin l.holder := by
  by_cases hp : k.origin = .p
  · exact .inl ⟨hp, by simpa [Lease.defers, ha, hp] using h⟩
  · have : directOrigin l.holder = k.origin := by simpa [Lease.defers, ha, hp] using h
    exact .inr this.symm

/-- Settles O38: the two cases of R24, and eligibility as R22 and R23 give it. -/
theorem schedulerChoosesByRotation : Obligations.SchedulerChoosesByRotation := by
  refine ⟨fun s k h hc => State.choose_current h hc, fun s h pre post q k hl hp hq => ?_,
    fun s o => s.eligible_directOrigin o, fun s pre post k h hp hk => State.eligible_p h hp hk,
    fun s c l h hl ha => ?_⟩
  · have hr : rotationFrom s.queue.current = pre ++ q :: post := by
      rw [← hl]; cases s.queue.current <;> rfl
    rw [State.choose_rotate h, hr]
    exact State.rotate_split hp hq
  · have hd := (State.eligible_some (State.choose_some h).1).2
    simp only [State.deferred, List.any_eq_false, Bool.not_eq_true] at hd
    exact Lease.of_defers_eq_false (hd l hl) ha

/-! ### The start (R9, R42, R59) -/

/-- The engine and the monitor at a start. -/
theorem State.startTicket_bus (s : State) (c : Choice) :
    (s.startTicket c).engine.state = .address ∧ (s.startTicket c).engine.sclDrive = .low ∧
      (s.startTicket c).engine.rate = s.settings.busRate ∧
      (s.startTicket c).engine.stretch = some (startCount s.settings.stretch.toNat) ∧
      (s.startTicket c).engine.trans = some (startCount s.settings.transaction.toNat) ∧
      (s.startTicket c).monitor.state = .busyOwn :=
  ⟨rfl, rfl, rfl, rfl, rfl, rfl⟩

/-- Settles O39. -/
theorem ticketStartMakesStart : Obligations.TicketStartMakesStart := by
  intro s c hr he hm hc
  have hx : exec .ticketStart s = .next (s.startTicket c).settle := by
    simp only [exec, execTicketStart, hc]
    exact event_next s _ _ hr (State.canStart_iff.2 ⟨he, hm⟩)
  obtain ⟨h1, h2, h3, h4, h5, h6⟩ := s.startTicket_bus c
  refine ⟨_, hx, ?_⟩
  simp [State.startTicket_queue, Ticket.clearProgress, h1, h2, h3, h4, h5, h6, Settings.busRate, startCount]

end Sys2Proof.Machine

/-! CANCEL (R16) and the expiries of deadlines and leases (R14, R102). -/

namespace Sys2Proof.Machine

variable {s s' t t' : State}

/-! ### Outcomes, read from what they are about -/

/-- What a retry trigger has led to is read from P's order, the mirror, the due marks and the settings. -/
theorem State.retriedTo_target (h : s.retriedTo t) (hq : t'.queue = t.queue) (hm : t'.mirror = t.mirror)
    (hd : t'.dueMarks = t.dueMarks) (hs : t'.settings = t.settings) : s.retriedTo t' := by
  have he : ∀ i, t'.entry i = t.entry i := fun i => by simp [State.entry, hm]
  unfold State.retriedTo at h ⊢
  simpa only [State.queuedOf, he, hq, hd, hs] using h

/-- An outcome is read from the records and the queue of both states, and from what a retry trigger reads. -/
theorem outcomeTaken_congr {o : Direct} {k : Ticket} {r : Result} (h : outcomeTaken s t o k r)
    (h1 : s'.recOf o = s.recOf o) (h2 : s'.waitingOf o = s.waitingOf o) (h3 : s'.time = s.time)
    (h4 : s'.dueMarks = s.dueMarks) (h5 : s'.queuedOf .p = s.queuedOf .p) (h6 : s'.mirror = s.mirror)
    (hq : t'.queue = t.queue) (hr : t'.records = t.records) (hm : t'.mirror = t.mirror)
    (hd : t'.dueMarks = t.dueMarks) (hs : t'.settings = t.settings) : outcomeTaken s' t' o k r := by
  have hrec : t'.recOf o = t.recOf o := by simp only [State.recOf, hr]
  have hw : t'.waitingOf o = t.waitingOf o := by simp only [State.waitingOf, hq]
  have hp : t'.queuedOf .p = t.queuedOf .p := by simp only [State.queuedOf, hq]
  unfold outcomeTaken at h ⊢
  rw [h1, h2, h3, h4, h5, hrec, hw, hd, hp]
  split_ifs at h ⊢
  · obtain ⟨a, b, c⟩ := h
    exact ⟨a, b, State.retriedTo_target (State.retriedTo_congr _ _ _ h4 h6 h3 h5 c) hq hm hd hs⟩
  · exact h

theorem State.recOf_dequeue (o : Direct) (q : Origin) (n : Nat) : (s.dequeue q n).recOf o = s.recOf o := by
  simp [State.recOf]

theorem State.waitingOf_dequeue (o : Direct) (q : Origin) (n : Nat) : (s.dequeue q n).waitingOf o = s.waitingOf o := by
  simp [State.waitingOf, State.dequeue]

/-- A direct origin's QUEUED ticket that ends is taken out of its order and handed over. -/
theorem State.endQueued_eq_handOver {o : Direct} {k : Ticket} (ho : k.orphaned = false) (r : Result) :
    s.endQueued (directOrigin o) k r = (s.dequeue (directOrigin o) k.number).handOver o k.clearProgress r := by
  simp [State.endQueued, State.finish, Ticket.clearProgress, ho, originDirect_directOrigin]

/-- A direct origin's QUEUED ticket ends: it is out of its order, and its outcome is taken (R10, R14, R16). -/
theorem State.endQueued_direct {o : Direct} {k : Ticket} {pre post : List Ticket}
    (h : s.queuedOf (directOrigin o) = pre ++ k :: post) (hp : ∀ j ∈ pre, j.number ≠ k.number)
    (ho : k.orphaned = false) (r : Result) :
    (s.endQueued (directOrigin o) k r).queuedOf (directOrigin o) = pre ++ post ∧
      outcomeTaken s (s.endQueued (directOrigin o) k r) o k.clearProgress r := by
  obtain ⟨hout, -, -, -, -, -, -, hqd⟩ :=
    (s.dequeue (directOrigin o) k.number).handOver_effect o k.clearProgress r
  rw [State.endQueued_eq_handOver ho]
  refine ⟨?_, outcomeTaken_congr hout (State.recOf_dequeue o _ _).symm (State.waitingOf_dequeue o _ _).symm (by simp)
    (by simp) ?_ (by simp) rfl rfl rfl rfl rfl⟩
  · rw [hqd, State.dequeue, State.queuedOf_setQueued, h]
    exact without_split k.number pre post k rfl hp
  · rw [State.dequeue, State.queuedOf_setQueued_ite, if_neg (directOrigin_ne_p o).symm]

/-! ### CANCEL by place (R16) -/

theorem State.cancel_zero (o : Direct) : s.cancel o 0 = (s, refuse .noSuch) := rfl

theorem State.cancel_queued {o : Direct} {n : Nat} {k : Ticket} (hn : n ≠ 0)
    (h : s.findQueued (directOrigin o) n = some k) :
    s.cancel o n = (s.endQueued (directOrigin o) k .cancelled, .answer .ok []) := by
  simp [State.cancel, hn, h]

section NotQueued

variable {o : Direct} {n : Nat} (hn : n ≠ 0) (hq : s.findQueued (directOrigin o) n = none)
include hn hq

theorem State.cancel_active {k : Ticket} (ha : s.activeOf o n = some k) :
    s.cancel o n = (s.setActive (some { k with abort := true }), .answer .ok []) := by
  simp [State.cancel, hn, hq, ha]

theorem State.cancel_ended (ha : s.activeOf o n = none) : s.cancel o n =
    (s, refuse (if s.isWaiting o n || s.inRing o n then .tooLate else .noSuch)) := by
  simp only [State.cancel, hn, hq, ha, if_false]
  split_ifs <;> rfl

end NotQueued

theorem State.reply_settle_outcome {o q : Direct} {k : Ticket} {r : Result} {u : State} (h : outcomeTaken s u o k r)
    (x : Reply) : outcomeTaken s (u.reply q x).settle o k r :=
  outcomeTaken_congr h rfl rfl rfl rfl rfl rfl (by simp) (by simp) (by simp) (by simp) (by simp)

/-- Settles O10: by the place of the ticket, what the act answers. -/
theorem cancelByPlace : Obligations.CancelByPlace := by
  intro o n s hh
  let act : State → State × Reply := fun u => u.cancel o n.toNat
  have hzero : ∀ {x : Byte}, x ≠ 0#8 → x.toNat ≠ 0 := fun {x} h hx => h (BitVec.eq_of_toNat_eq (by simpa using hx))
  refine ⟨_, command_hands s o (.cancel o n) act hh, fun h0 => ?_, fun k pre post h0 hl hk hp ho => ?_,
    fun h0 hq => ⟨fun k ha hko hkn ho => ?_, fun ha => ?_⟩⟩
  · have hact : act s = (s, refuse .noSuch) := by subst h0; exact s.cancel_zero o
    exact ⟨fun p hp => s.carryOut_quiet o act (by rw [hact]) p hp, s.answered_carryOut o act _ _ (by rw [hact]; rfl)⟩
  · have hact : act s = (s.endQueued (directOrigin o) k .cancelled, .answer .ok []) :=
      State.cancel_queued (hzero h0) (s.findQueued_split _ _ pre post k hl hk hp)
    obtain ⟨hqd, hout⟩ := State.endQueued_direct hl (by rwa [hk]) ho .cancelled
    refine ⟨?_, ?_, s.answered_carryOut o act _ _ (by rw [hact])⟩
    · rw [State.queuedOf, State.carryOut_queue, hact]
      exact hqd
    · rw [State.carryOut, hact]
      exact State.reply_settle_outcome hout _
  · have hact : act s = (s.setActive (some { k with abort := true }), .answer .ok []) :=
      State.cancel_active (hzero h0) (s.findQueued_none _ _ hq) (State.activeOf_eq_some.2 ⟨ha, hko, hkn, ho⟩)
    refine ⟨?_, s.answered_carryOut o act _ _ (by rw [hact])⟩
    rw [State.carryOut_queue, hact]
    simp
  · have hact : act s = (s, refuse (if s.isWaiting o n.toNat || s.inRing o n.toNat then .tooLate else .noSuch)) :=
      State.cancel_ended (hzero h0) (s.findQueued_none _ _ hq) (State.activeOf_eq_none ha)
    refine ⟨fun p hp => s.carryOut_quiet o act (by rw [hact]) p hp, fun hw => ?_, fun hw hr => ?_⟩
    · have : (s.isWaiting o n.toNat || s.inRing o n.toNat) = true := by
        rw [Bool.or_eq_true, State.isWaiting_iff, State.inRing_iff]; exact hw
      exact s.answered_carryOut o act _ _ (by rw [hact, this]; rfl)
    · exact s.answered_carryOut o act _ _ (by
        rw [hact, State.isWaiting_eq_false hw, State.inRing_eq_false hr]; rfl)

/-! ### Deadlines (R14) -/

/-- The copy of an outcome reaches the port that waits on its ticket (R159, R173). -/
theorem State.handOver_copy {o : Direct} {k : Ticket} {limit : Nat} (hw : k.waited = true)
    (hs : s.slotOf o = .onTicket k.number limit) (r : Result) :
    (s.handOver o k r).slotOf o = .ready (responseFrame .ok (k.record r s.time).layout) := by
  have hc : (s.deliverCopy o (k.record r s.time)).slotOf o = .ready (responseFrame .ok (k.record r s.time).layout) := by
    have hn : (k.record r s.time).number = k.number := rfl
    simp only [State.deliverCopy, hs, hn, if_true]
    exact s.answered_putReady o _
  have hports : ∀ u v : State, u.portA = v.portA → u.portB = v.portB → u.portC = v.portC → u.slotOf o = v.slotOf o :=
    fun u v h1 h2 h3 => by cases o <;> simp [State.slotOf, h1, h2, h3]
  rw [← hc]
  unfold State.handOver
  rw [if_pos hw]
  dsimp only
  split_ifs
  · exact hports _ _ (by simp) (by simp) (by simp)
  · exact hports _ _ (by simp) (by simp) (by simp)

/-- A deadline that has been reached, of a QUEUED ticket. -/
theorem exec_deadlineExpiry {q : Origin} {n : Nat} {k : Ticket} (hr : s.resetting = none)
    (h : s.findQueued q n = some k) (hk : k.deadlineReached = true) :
    exec (.deadlineExpiry q n) s = .next (s.endQueued q k .expired).settle := by
  simp only [exec, execDeadlineExpiry, h]
  exact event_next s _ _ hr hk

/-- A poll ticket that ends QUEUED: its result, with no bytes, reaches its entry, and its departure is a retry trigger
(R12, R14, R26, R127). -/
theorem State.endQueued_p {k : Ticket} {pre post : List Ticket} (h : s.queuedOf .p = pre ++ k :: post)
    (hp : ∀ j ∈ pre, j.number ≠ k.number) (ho : k.orphaned = false) (r : Result) :
    (s.endQueued .p k r).records = (s.pollResult k.number r []).records ∧
      (s.endQueued .p k r).sameEntries (s.pollResult k.number r []) ∧
      ((s.pollResult k.number r []).setQueued .p (pre ++ post)).retriedTo (s.endQueued .p k r) := by
  have he : s.endQueued .p k r = ((s.dequeue .p k.number).pollResult k.number r []).departed := by
    simp [State.endQueued, State.finish, Ticket.clearProgress, ho, originDirect]
  obtain ⟨hm, hrec⟩ := State.pollResult_agrees s (s.dequeue .p k.number) k.number r [] (by simp) (by simp) (by simp)
  obtain ⟨-, hse, hdr⟩ := ((s.dequeue .p k.number).pollResult k.number r []).departed_effect
  rw [he]
  refine ⟨hdr.trans hrec, State.sameEntries_trans _ _ _ (State.sameEntries_of_mirror _ _ hm) hse,
    State.retriedTo_congr _ _ _ (by simp) (by simpa using hm.symm) (by simp) ?_ (State.retryPosts_retried _)⟩
  rw [State.queuedOf_setQueued, State.queuedOf, State.pollResult_queue, ← State.queuedOf, State.dequeue,
    State.queuedOf_setQueued, h, without_split k.number pre post k rfl hp]

/-! ### Leases (R102) -/

theorem State.leaseOn_split {l : Lease} {pre post : List Lease} (h : s.leases = pre ++ l :: post)
    (hp : ∀ m ∈ pre ++ post, m.addr ≠ l.addr) : s.leaseOn l.addr = some l := by
  have hn : pre.find? (fun m => decide (m.addr = l.addr)) = none := by
    rw [List.find?_eq_none]; intro m hm; simpa using hp m (by simp [hm])
  simp [State.leaseOn, h, List.find?_append, hn]

theorem leasesWithout_split {l : Lease} {pre post : List Lease} (hp : ∀ m ∈ pre ++ post, m.addr ≠ l.addr) :
    leasesWithout l.addr (pre ++ l :: post) = pre ++ post := by
  have h : ∀ x : List Lease, (∀ m ∈ x, m.addr ≠ l.addr) → x.filter (·.addr ≠ l.addr) = x := fun x hx => by
    rw [List.filter_eq_self]; intro m hm; simpa using hx m hm
  rw [leasesWithout, List.filter_append, List.filter_cons_of_neg (by simp), h pre fun m hm => hp m (by simp [hm]),
    h post fun m hm => hp m (by simp [hm])]

/-- The lease-ended mark of an expiry (R102 step 2). -/
theorem Queue.markLeaseEnded_eq (q : Queue) (l : Lease) : q.markLeaseEnded l =
    { q with active := q.active.map fun k =>
        if k.origin = directOrigin l.holder ∧ k.addr = l.addr ∧ k.orphaned = false then { k with leaseEnded := true }
        else k } := by
  simp only [Queue.markLeaseEnded, Lease.marks, Bool.and_eq_true, decide_eq_true_eq, Bool.not_eq_true', and_assoc]

theorem State.expireLease_effect (s : State) (l : Lease) :
    (s.expireLease l).leases = leasesWithout l.addr s.leases ∧
      (s.expireLease l).queue = s.queue.markLeaseEnded l ∧
      ∀ q, (s.expireLease l).recOf q =
        if q = l.holder then (s.recOf q).arrive .leaseEnded (.device l.addr) [] s.time else s.recOf q := by
  refine ⟨by simp [State.expireLease], by simp [State.expireLease], fun q => ?_⟩
  rw [State.expireLease, State.recOf_notify]
  simp [State.recOf]

/-- Settles O52. -/
theorem expiriesAreTaken : Obligations.ExpiriesAreTaken := by
  refine ⟨fun s o n k pre post hr hl hk hp hd ho => ?_, fun s n k pre post hr hl hk hp hd ho => ?_,
    fun s l pre post hr hl hp hre => ?_⟩
  · subst hk
    obtain ⟨hqd, hout⟩ := State.endQueued_direct hl hp ho .expired
    refine ⟨_, exec_deadlineExpiry hr (s.findQueued_split _ _ pre post k hl rfl hp) hd, hqd,
      outcomeTaken_congr hout rfl rfl rfl rfl rfl rfl (by simp) (by simp) (by simp) (by simp) (by simp),
      fun limit hw hs => ?_⟩
    have hs' : (s.dequeue (directOrigin o) k.number).slotOf o = .onTicket k.clearProgress.number limit := by
      cases o <;> simpa [State.slotOf, Ticket.clearProgress] using hs
    have hc := State.handOver_copy (k := k.clearProgress) hw hs' .expired
    rw [State.answered, (State.settle_port _ o .a).1, State.endQueued_eq_handOver ho, hc]
    simp [Ticket.clearProgress]
  · subst hk
    obtain ⟨h1, h2, h3⟩ := State.endQueued_p hl hp ho .expired
    exact ⟨_, exec_deadlineExpiry hr (s.findQueued_split _ _ pre post k hl rfl hp) hd, h1, h2,
      State.retriedTo_target h3 (by simp) (by simp) (by simp) (by simp)⟩
  · obtain ⟨h1, h2, h3⟩ := s.expireLease_effect l
    have hx : exec (.leaseExpiry l.addr) s = .next (s.expireLease l).settle := by
      simp only [exec, execLeaseExpiry, State.leaseOn_split hl hp]
      exact event_next s _ _ hr hre
    refine ⟨_, hx, ?_, fun q => ?_, ?_⟩
    · rw [(State.settle_fields _).2.2.2.2.2.2.2.2.2.1, h1, hl, leasesWithout_split hp]
    · exact h3 q
    · exact h2.trans (s.queue.markLeaseEnded_eq l)

end Sys2Proof.Machine

/-! Arbitration lost at a check point (R13, R15, R25, R48, R49). -/

namespace Sys2Proof.Machine

variable {s : State}

/-! ### Check points -/

/-- The state of a place that a rise samples is a transfer's. -/
theorem Engine.atCheckPoint_inTransfer {e : Engine} {k : Ticket} (h : e.atCheckPoint k) : e.state.inTransfer = true := by
  rcases h with ⟨hs, -⟩ | ⟨hs, -⟩ | ⟨hs, -⟩
  · simp only [List.mem_cons, List.not_mem_nil, or_false] at hs
    rcases hs with hs | hs | hs <;> rw [hs] <;> rfl
  · rw [hs]; rfl
  · rw [hs]; rfl

/-- A byte sent with no bit left that is 1 has no check point, nor has a condition that is not being made. -/
theorem Engine.checkPoint_eq_false {e : Engine} {k : Ticket} (hs : e.state ∈ [EngineState.address, .write, .restart])
    (hb : e.state = .restart → e.bit ≠ none) (h : e.sendsOne k = false) (cut : Sampled) :
    e.checkPoint k cut = false := by
  simp only [List.mem_cons, List.not_mem_nil, or_false] at hs
  rcases hs with hs | hs | hs
  · simp [Engine.checkPoint, hs, h]
  · simp [Engine.checkPoint, hs, h]
  · have : e.bit.isNone = false := by simpa [Option.isSome_iff_ne_none] using hb hs
    simp [Engine.checkPoint, hs, h, this]

/-- What had been sampled and counts is what can have been, and the ticket with it. -/
theorem cutLeaves_iff {st : EngineState} {k k' : Ticket} {cut : Sampled} :
    cutLeaves st k cut k' ↔ cutPossible st k cut = true ∧ k' = k.withCut cut := by
  cases cut <;> simp [cutLeaves, cutPossible, Ticket.withCut, Ticket.countWrite, Ticket.keep, and_assoc]

/-- The places of R48: each is a check point of the engine. -/
theorem Engine.checkPoint_of_place {e : Engine} {k : Ticket} {cut : Sampled} (hc : cutPossible e.state k cut = true)
    (h : (e.state ∈ [EngineState.address, .write, .restart] ∧ cut = .nothing ∧
        ∃ j < 8, e.bit.getD 0 ≤ j ∧ (k.sentByte e.state).getLsbD (7 - j) = true) ∨
      (e.state = .restart ∧ cut = .nothing ∧ e.bit = none) ∨ (e.state = .stopping ∧ cut = .nothing) ∨
      (e.state = .read ∧ cut ≠ .nothing ∧ e.bit ≠ some 8 ∧ (k.rlen ≤ k.rdata.length + 1 ∨ k.abort = true)) ∨
      (e.state = .read ∧ cut ≠ .nothing ∧ e.bit = some 8 ∧ e.sdaDrive = .released)) :
    e.checkPoint k cut = true ∧ e.state.inTransfer = true := by
  rcases h with ⟨hs, rfl, hone⟩ | ⟨hs, rfl, hb⟩ | ⟨hs, rfl⟩ | ⟨hs, hcut, hb, hn⟩ | ⟨hs, hcut, hb, hd⟩
  · have h1 := (e.sendsOne_iff k).2 hone
    simp only [List.mem_cons, List.not_mem_nil, or_false] at hs
    rcases hs with hs | hs | hs <;> simp [Engine.checkPoint, hs, h1, EngineState.inTransfer]
  · simp [Engine.checkPoint, hs, hb, EngineState.inTransfer]
  · simp [Engine.checkPoint, hs, EngineState.inTransfer]
  · have hg : e.givesNack k = true := by
      rcases hn with hn | hn <;> simp [Engine.givesNack, hb, Ticket.acksNext, hn]
    cases cut <;> simp_all [Engine.checkPoint, cutPossible, EngineState.inTransfer]
  · have hg : e.givesNack k = true := by simp [Engine.givesNack, hb, hd]
    cases cut <;> simp_all [Engine.checkPoint, cutPossible, EngineState.inTransfer]

/-! ### The loss -/

/-- The part as the loss leaves it to the queue: the engine in BACKOFF, the monitor BUSY_FOREIGN, the credit given back
(R25, R49). -/
def State.backedOff (s : State) : State :=
  ((((s.setEngine (s.engine.letGo .backoff)).setFreeTime none).monitorTo .busyForeign).see true false).giveBack

theorem State.backedOff_fields (s : State) : s.backedOff.engine = s.engine.letGo .backoff ∧
    s.backedOff.monitor.state = .busyForeign ∧
    s.backedOff.queue = { s.queue with credit := s.queue.credit + 1, active := none } ∧
    s.backedOff.records = s.records ∧ s.backedOff.mirror = s.mirror ∧ s.backedOff.dueMarks = s.dueMarks ∧
    s.backedOff.time = s.time ∧ s.backedOff.settings = s.settings := by
  refine ⟨?_, rfl, ?_, ?_, ?_, ?_, ?_, ?_⟩ <;> simp [State.backedOff, State.giveBack]

theorem State.loseArbitration_eq (s : State) (k : Ticket) (cut : Sampled) :
    s.loseArbitration k cut = s.backedOff.lost (k.withCut cut) := rfl

/-- A ticket that the loss ends (R13). -/
theorem State.backedOff_finish (s : State) (k : Ticket) (r : Result) :
    ticketEnded s (s.backedOff.finish k.origin k r) k r ∧ (s.backedOff.finish k.origin k r).queue.active = none ∧
      (s.backedOff.finish k.origin k r).queue.credit = s.queue.credit + 1 ∧
      (s.backedOff.finish k.origin k r).queue.current = s.queue.current := by
  obtain ⟨-, -, hq, hr, hm, hd, ht, -⟩ := s.backedOff_fields
  obtain ⟨h1, h2, h3, h4⟩ := State.finish_effect s.backedOff s k r hm hr ht (by rw [hq]) hd
    (by simp only [State.queuedOf, hq])
  exact ⟨h1, h2.trans (by rw [hq]), h3.trans (by rw [hq]), h4.trans (by rw [hq])⟩

/-- What is left of a ticket by a cut keeps its marks. -/
theorem Ticket.withCut_marks (k : Ticket) (cut : Sampled) : (k.withCut cut).orphaned = k.orphaned ∧
    (k.withCut cut).abort = k.abort ∧ (k.withCut cut).noRetry = k.noRetry ∧ (k.withCut cut).retries = k.retries ∧
    (k.withCut cut).deadlineReached = k.deadlineReached ∧ (k.withCut cut).origin = k.origin := by
  cases cut <;> exact ⟨rfl, rfl, rfl, rfl, rfl, rfl⟩

/-- The credit and the scheduler's origin after a loss, whatever becomes of the ticket. -/
theorem State.lost_scheduler (s : State) (k : Ticket) : (s.backedOff.lost k).queue.active = none ∧
    (s.backedOff.lost k).queue.credit = s.queue.credit + 1 ∧
    (s.backedOff.lost k).queue.current = s.queue.current := by
  unfold State.lost
  split_ifs
  · exact (s.backedOff_finish k _).2
  · exact (s.backedOff_finish k _).2
  · exact (s.backedOff_finish k _).2
  · exact (s.backedOff_finish { k.clearProgress with retries := k.retries + 1 } _).2
  · simp [State.requeue, s.backedOff_fields.2.2.1]

section Cases

variable {u : State} {k : Ticket}

theorem State.lost_orphaned (h : k.orphaned = true) : u.lost k = u.finish k.origin k .arbLost := by
  simp [State.lost, h]

theorem State.lost_aborted (h : k.orphaned = false) (ha : k.abort = true) :
    u.lost k = u.finish k.origin k .cancelled := by
  simp [State.lost, h, ha]

theorem State.lost_exhausted (h : k.orphaned = false) (ha : k.abort = false)
    (hr : k.noRetry = true ∨ u.settings.retryLimit.toNat ≤ k.retries) : u.lost k = u.finish k.origin k .arbLost := by
  simp [State.lost, h, ha, hr]

variable (h : k.orphaned = false) (ha : k.abort = false) (hn : k.noRetry = false)
  (hr : k.retries < u.settings.retryLimit.toNat)
include h ha hn hr

theorem State.lost_expired (hd : k.deadlineReached = true) :
    u.lost k = u.finish k.origin { k.clearProgress with retries := k.retries + 1 } .expired := by
  have : ¬u.settings.retryLimit.toNat ≤ k.retries := by omega
  simp [State.lost, h, ha, hn, this, hd]

theorem State.lost_requeued (hd : k.deadlineReached = false) : u.lost k = u.requeue k := by
  have : ¬u.settings.retryLimit.toNat ≤ k.retries := by omega
  simp [State.lost, h, ha, hn, this, hd]

end Cases

/-- The end of a ticket is read from no output. -/
theorem ticketEnded_settle {u : State} {k : Ticket} {r : Result} (h : ticketEnded s u k r) :
    ticketEnded s u.settle k r := h

/-- Settles O45: the case of R13 decides what `lost` does, and the end of a ticket what that leaves. -/
theorem arbitrationLossGivesTicketBack : Obligations.ArbitrationLossGivesTicketBack := by
  refine ⟨fun s k cut ha hs hb hz => ?_, fun s k ha hcp hsda => ?_, fun s k k' cut hr ha hcut hplace => ?_⟩
  · have hone : s.engine.sendsOne k = false := by
      rw [Bool.eq_false_iff, Ne, Engine.sendsOne_iff]
      rintro ⟨j, hj, hbit, hset⟩
      simp [hz j hj hbit] at hset
    have hcp := Engine.checkPoint_eq_false hs hb hone cut
    simp only [exec, execArbitrationLost]
    split
    · rename_i k' hk'
      obtain rfl : k' = k := Option.some.inj ((State.inTransfer_eq_some.1 hk').2.symm.trans ha)
      simp [event, hcp]
    · simp [event]
  · have hit : s.inTransfer = some k := State.inTransfer_eq_some.2 ⟨Engine.atCheckPoint_inTransfer hcp, ha⟩
    have hl : s.riseLoses = true := by
      simp [State.riseLoses, hsda, hit, (Engine.checksAtRise_iff _ _).2 hcp]
    simp [exec, execDBusLineChange, State.changePossible, State.sclMayRise, hl, event]
  · obtain ⟨hpos, rfl⟩ := cutLeaves_iff.1 hcut
    obtain ⟨hcp, hin⟩ := Engine.checkPoint_of_place hpos hplace
    have hx : exec (.arbitrationLost cut) s = .next (s.loseArbitration k cut).settle := by
      simp only [exec, execArbitrationLost, State.inTransfer_eq_some.2 ⟨hin, ha⟩]
      exact event_next s _ _ hr (by simp [hcp, hpos])
    obtain ⟨he, hm, hq, hrec, hmir, -, -, hset⟩ := s.backedOff_fields
    obtain ⟨hact, hcred, hcur⟩ := s.lost_scheduler (k.withCut cut)
    obtain ⟨mo, ma, mn, mr, md, mq⟩ := k.withCut_marks cut
    have heng : (s.backedOff.lost (k.withCut cut)).engine = s.engine.letGo .backoff := by rw [← he]; simp
    rw [State.loseArbitration_eq] at hx
    refine ⟨_, hx, ?_⟩
    simp only [State.settle_fields, heng, hact, hcred, hcur, State.lost_frame, hm, true_and]
    refine ⟨rfl, rfl, rfl, rfl, rfl, fun ho => ?_, fun ho hab => ?_, fun ho hab hl => ?_,
      fun ho hab hnr hl => ⟨fun hd => ?_, fun hd => ?_⟩⟩
    · rw [State.lost_orphaned (mo.trans ho)]
      exact ticketEnded_settle (s.backedOff_finish _ _).1
    · rw [State.lost_aborted (mo.trans ho) (ma.trans hab)]
      exact ticketEnded_settle (s.backedOff_finish _ _).1
    · rw [State.lost_exhausted (mo.trans ho) (ma.trans hab) (by rw [mn, mr, hset]; exact hl)]
      exact ticketEnded_settle (s.backedOff_finish _ _).1
    · rw [State.lost_requeued (mo.trans ho) (ma.trans hab) (mn.trans hnr) (by rw [mr, hset]; exact hl) (md.trans hd)]
      refine ⟨by simpa using hrec, by simpa using hmir, by simp [State.requeue, hq], ?_⟩
      change ((s.backedOff.requeue (k.withCut cut))).queuedOf k.origin = _
      rw [State.requeue, ← mq, State.queuedOf_setQueued, mr]
      simp only [State.queuedOf, hq]
      rfl
    · rw [State.lost_expired (mo.trans ho) (ma.trans hab) (mn.trans hnr) (by rw [mr, hset]; exact hl) (md.trans hd), mr]
      exact ticketEnded_settle
        (s.backedOff_finish { (k.withCut cut).clearProgress with retries := k.retries + 1 } _).1

end Sys2Proof.Machine

/-! The ends of a transfer's bytes: the address (R43), the write bytes (R44), the repeated START (R45), the read bytes
(R46), and the same under an abort (R53 to R55). -/

namespace Sys2Proof.Machine

variable {s : State} {k : Ticket}

/-! ### A phase of the transfer -/

/-- The engine in a phase: its place in the transfer, the limits, and the ticket it runs. -/
@[simp] theorem State.enterPhase_effect (s : State) (st : EngineState) (bit : Option Nat) (f : Option Result)
    (k : Ticket) :
    (s.enterPhase st bit f k).engine.state = st ∧ (s.enterPhase st bit f k).engine.fixed = f ∧
      (s.enterPhase st bit f k).engine.trans = s.engine.trans ∧
      (s.enterPhase st bit f k).engine.stretch = some ⟨s.engine.stretchLimit, 0⟩ ∧
      (s.enterPhase st bit f k).queue = { s.queue with active := some k } :=
  ⟨rfl, rfl, rfl, rfl, rfl⟩

/-- STOPPING is a phase, with the result fixed (R47). -/
@[simp] theorem State.toStopping_effect (s : State) (r : Result) (k : Ticket) :
    (s.toStopping r k).engine.state = .stopping ∧ (s.toStopping r k).engine.fixed = some r :=
  ⟨rfl, rfl⟩

/-- The next state is a phase of the transfer, with this ticket. -/
def State.goesOn (s u : State) (k : Ticket) : Prop := ∃ st bit f, u = s.enterPhase st bit f k

theorem State.goesOn_queue {u : State} (h : s.goesOn u k) : u.queue = { s.queue with active := some k } := by
  obtain ⟨st, bit, f, rfl⟩ := h
  simp

/-- A phase with the ticket as it stands leaves the queue as it is. -/
theorem State.goesOn_queue_same {u : State} (h : s.goesOn u k) (ha : s.queue.active = some k) : u.queue = s.queue := by
  rw [State.goesOn_queue h, ← ha]

theorem State.goesOn_counts {u : State} (h : s.goesOn u k) :
    u.engine.trans = s.engine.trans ∧ u.engine.stretch = some ⟨s.engine.stretchLimit, 0⟩ := by
  obtain ⟨st, bit, f, rfl⟩ := h
  simp

theorem State.goesOn_toStopping (s : State) (r : Result) (k : Ticket) : s.goesOn (s.toStopping r k) k :=
  ⟨_, _, _, rfl⟩

theorem State.goesOn_enterPhase (s : State) (st : EngineState) (bit : Option Nat) (f : Option Result) (k : Ticket) :
    s.goesOn (s.enterPhase st bit f k) k :=
  ⟨_, _, _, rfl⟩

/-- The engine in a state runs the ACTIVE ticket. -/
theorem State.running_of {st : EngineState} (he : s.engine.state = st) (ha : s.queue.active = some k) :
    s.running st = some k := by
  simp [State.running, he, ha]

/-! ### After the address byte (R43, R54, R55) -/

theorem exec_addressByteEnd (hr : s.resetting = none) (he : s.engine.state = .address) (ha : s.queue.active = some k)
    (ack : Bool) : exec (.addressByteEnd ack) s = .next (s.afterAddress k ack).settle := by
  simp only [exec, execAddressByteEnd, State.running_of he ha]
  exact event_next s _ _ hr rfl

theorem State.afterAddress_goesOn (s : State) (k : Ticket) (ack : Bool) : s.goesOn (s.afterAddress k ack) k := by
  unfold State.afterAddress
  split
  · split_ifs
    · exact s.goesOn_enterPhase _ _ _ _
    · exact s.goesOn_toStopping _ _
    · exact s.goesOn_toStopping _ _
  · exact s.goesOn_toStopping _ _
  all_goals
    split_ifs
    · exact s.goesOn_toStopping _ _
    · exact s.goesOn_enterPhase _ _ _ _
    · exact s.goesOn_toStopping _ _

theorem State.afterAddress_nack (s : State) (k : Ticket) :
    s.afterAddress k false = s.toStopping (if k.abort then .cancelled else .noDevice) k := by
  unfold State.afterAddress
  cases k.kind <;> cases k.abort <;> rfl

theorem State.afterAddress_probe (s : State) (hk : k.kind = .probe) :
    s.afterAddress k true = s.toStopping (if k.abort then .cancelled else .done) k := by
  simp [State.afterAddress, hk]

theorem State.afterAddress_write (s : State) (hk : k.kind = .write ∨ k.kind = .writeRead) :
    s.afterAddress k true = if k.abort then s.toStopping .cancelled k else s.enterPhase .write (some 0) none k := by
  rcases hk with hk | hk <;> simp [State.afterAddress, hk]

theorem State.afterAddress_read (s : State) (hk : k.kind = .read) :
    s.afterAddress k true = s.enterPhase .read (some 0) none k := by
  simp [State.afterAddress, hk]

/-- Settles O40: where the acknowledge bit leads, with the ticket as it stands. -/
theorem addressAcknowledgeDecides : Obligations.AddressAcknowledgeDecides := by
  intro s k ack hr he ha hab
  have hgo := s.afterAddress_goesOn k ack
  obtain ⟨htrans, hstretch⟩ := State.goesOn_counts hgo
  refine ⟨_, exec_addressByteEnd hr he ha ack, ?_⟩
  simp only [State.settle_fields]
  refine ⟨State.goesOn_queue_same hgo ha, htrans, hstretch, ?_, ?_, ?_, ?_⟩
  · rintro rfl
    simp [State.afterAddress_nack, hab]
  · rintro rfl hk
    simp [State.afterAddress_probe s hk, hab]
  · rintro rfl hk
    simp [State.afterAddress_write s hk, hab]
  · rintro rfl hk
    simp [State.afterAddress_read s hk]

/-! ### After a write byte (R44, R54) -/

theorem exec_writeByteEnd (hr : s.resetting = none) (he : s.engine.state = .write) (ha : s.queue.active = some k)
    (ack : Bool) : exec (.writeByteEnd ack) s = .next (s.afterWriteByte k ack).settle := by
  simp only [exec, execWriteByteEnd, State.running_of he ha]
  exact event_next s _ _ hr rfl

theorem State.afterWriteByte_nack (s : State) (k : Ticket) :
    s.afterWriteByte k false = s.toStopping (if k.abort then .cancelled else .dataNack) k := rfl

theorem State.afterWriteByte_ack (s : State) (k : Ticket) :
    s.afterWriteByte k true = s.afterAckedWrite k.countWrite := rfl

theorem State.afterAckedWrite_goesOn (s : State) (k : Ticket) : s.goesOn (s.afterAckedWrite k) k := by
  unfold State.afterAckedWrite
  split_ifs
  · exact s.goesOn_toStopping _ _
  · exact s.goesOn_enterPhase _ _ _ _
  · exact s.goesOn_enterPhase _ _ _ _
  · exact s.goesOn_toStopping _ _

theorem State.afterWriteByte_goesOn (s : State) (k : Ticket) (ack : Bool) :
    s.goesOn (s.afterWriteByte k ack) (if ack then k.countWrite else k) := by
  cases ack
  · exact s.goesOn_toStopping _ k
  · exact s.afterAckedWrite_goesOn k.countWrite

theorem State.afterAckedWrite_aborted (s : State) (h : k.abort = true) :
    s.afterAckedWrite k = s.toStopping .cancelled k := by
  simp [State.afterAckedWrite, h]

theorem State.afterAckedWrite_more (s : State) (h : k.abort = false) (hl : k.acked < k.wdata.length) :
    s.afterAckedWrite k = s.enterPhase .write (some 0) none k := by
  simp [State.afterAckedWrite, h, hl]

theorem State.afterAckedWrite_restart (s : State) (h : k.abort = false) (hl : k.wdata.length ≤ k.acked)
    (hk : k.kind = .writeRead) : s.afterAckedWrite k = s.enterPhase .restart none none k := by
  simp [State.afterAckedWrite, h, Nat.not_lt.2 hl, hk]

theorem State.afterAckedWrite_done (s : State) (h : k.abort = false) (hl : k.wdata.length ≤ k.acked)
    (hk : k.kind ≠ .writeRead) : s.afterAckedWrite k = s.toStopping .done k := by
  simp [State.afterAckedWrite, h, Nat.not_lt.2 hl, hk]

/-- Settles O41: a NACK stops with the ticket as it was; an ACK counts the byte, and the count decides. -/
theorem writeAcknowledgeCounts : Obligations.WriteAcknowledgeCounts := by
  intro s k ack hr he ha hab
  have hgo := s.afterWriteByte_goesOn k ack
  obtain ⟨htrans, hstretch⟩ := State.goesOn_counts hgo
  refine ⟨_, exec_writeByteEnd hr he ha ack, ?_⟩
  simp only [State.settle_fields]
  refine ⟨htrans, hstretch, ?_, ?_⟩
  · rintro rfl
    exact ⟨State.goesOn_queue_same hgo ha, by simp [State.afterWriteByte_nack, hab]⟩
  · rintro rfl
    have hcount : k.countWrite.abort = false := hab
    rw [State.afterWriteByte_ack]
    refine ⟨State.goesOn_queue (s.afterAckedWrite_goesOn k.countWrite), fun hl => ?_, fun hl hk => ?_,
      fun hl hk => ?_⟩
    · simp [State.afterAckedWrite_more s hcount hl]
    · simp [State.afterAckedWrite_restart s hcount hl hk]
    · simp [State.afterAckedWrite_done s hcount hl hk]

/-! ### After the read address, and after a read byte (R45, R46, R53 to R55) -/

theorem exec_restartEnd (hr : s.resetting = none) (he : s.engine.state = .restart) (ha : s.queue.active = some k)
    (ack : Bool) : exec (.restartEnd ack) s = .next (s.afterRestart k ack).settle := by
  simp only [exec, execRestartEnd, State.running_of he ha]
  exact event_next s _ _ hr rfl

theorem exec_readByteEnd (hr : s.resetting = none) (he : s.engine.state = .read) (ha : s.queue.active = some k)
    (b : Byte) : exec (.readByteEnd b) s = .next (s.afterReadByte (k.keep b)).settle := by
  simp only [exec, execReadByteEnd, State.running_of he ha]
  exact event_next s _ _ hr rfl

theorem State.afterRestart_ack (s : State) (k : Ticket) :
    s.afterRestart k true = s.enterPhase .read (some 0) none k := rfl

theorem State.afterRestart_nack (s : State) (k : Ticket) :
    s.afterRestart k false = s.toStopping (if k.abort then .cancelled else .noDevice) k := rfl

theorem State.afterRestart_goesOn (s : State) (k : Ticket) (ack : Bool) : s.goesOn (s.afterRestart k ack) k := by
  cases ack
  · exact s.goesOn_toStopping _ _
  · exact s.goesOn_enterPhase _ _ _ _

theorem State.afterReadByte_goesOn (s : State) (k : Ticket) : s.goesOn (s.afterReadByte k) k := by
  unfold State.afterReadByte
  split_ifs
  · exact s.goesOn_toStopping _ _
  · exact s.goesOn_enterPhase _ _ _ _
  · exact s.goesOn_toStopping _ _

theorem State.afterReadByte_aborted (s : State) (h : k.abort = true) :
    s.afterReadByte k = s.toStopping .cancelled k := by
  simp [State.afterReadByte, h]

theorem State.afterReadByte_more (s : State) (h : k.abort = false) (hl : k.rdata.length < k.rlen) :
    s.afterReadByte k = s.enterPhase .read (some 0) none k := by
  simp [State.afterReadByte, h, hl]

theorem State.afterReadByte_last (s : State) (h : k.abort = false) (hl : k.rlen ≤ k.rdata.length) :
    s.afterReadByte k = s.toStopping .done k := by
  simp [State.afterReadByte, h, Nat.not_lt.2 hl]

theorem Ticket.length_keep (k : Ticket) (b : Byte) : (k.keep b).rdata.length = k.rdata.length + 1 := by
  simp [Ticket.keep]

/-- Settles O42: the read address keeps the ticket; a read byte is kept, and the number of bytes decides. -/
theorem readPhaseKeepsBytes : Obligations.ReadPhaseKeepsBytes := by
  refine ⟨fun s k ack hr he ha hab => ⟨rfl, ?_⟩, fun s k b hr he ha hab => ?_⟩
  · refine ⟨_, exec_restartEnd hr he ha ack, ?_⟩
    simp only [State.settle_fields]
    refine ⟨State.goesOn_queue_same (s.afterRestart_goesOn k ack) ha, ?_, ?_⟩
    · rintro rfl
      simp [State.afterRestart_nack, hab]
    · rintro rfl
      simp [State.afterRestart_ack]
  · refine ⟨_, exec_readByteEnd hr he ha b, ?_⟩
    simp only [State.settle_fields]
    have hk : (k.keep b).abort = false := hab
    rw [← Ticket.length_keep k b]
    refine ⟨State.goesOn_queue (s.afterReadByte_goesOn (k.keep b)), fun hl => ?_, fun hl => ?_⟩
    · simp [State.afterReadByte_more s hk hl]
    · simp [State.afterReadByte_last s hk hl]

/-! ### Under an abort (R53 to R55) -/

/-- An aborted ticket is stopped after its address byte, but where a read address was acknowledged (R54, R55). -/
theorem State.afterAddress_aborted (s : State) (h : k.abort = true) {ack : Bool}
    (hk : k.kind ≠ .read ∨ ack = false) : s.afterAddress k ack = s.toStopping .cancelled k := by
  cases ack
  · rw [State.afterAddress_nack, if_pos h]
  · have hread : k.kind ≠ .read := by simpa using hk
    cases hkind : k.kind
    case probe => rw [State.afterAddress_probe s hkind, if_pos h]
    case write => rw [State.afterAddress_write s (.inl hkind), if_pos h]
    case read => exact absurd hkind hread
    case writeRead => rw [State.afterAddress_write s (.inr hkind), if_pos h]

/-- An aborted ticket is stopped after its write byte, which counts where it was acknowledged (R54). -/
theorem State.afterWriteByte_aborted (s : State) (h : k.abort = true) (ack : Bool) :
    s.afterWriteByte k ack = s.toStopping .cancelled (if ack then k.countWrite else k) := by
  cases ack
  · rw [State.afterWriteByte_nack, if_pos h]; rfl
  · exact State.afterAckedWrite_aborted s h

/-- Settles O43: at each of the four byte boundaries the mark decides. -/
theorem abortEndsAtByteBoundary : Obligations.AbortEndsAtByteBoundary := by
  intro s k ack hr ha hab
  refine ⟨fun he => ?_, fun he => ?_, fun he => ?_, fun he b => ?_⟩
  · refine ⟨_, exec_addressByteEnd hr he ha ack, ?_⟩
    simp only [State.settle_fields]
    refine ⟨State.goesOn_queue_same (s.afterAddress_goesOn k ack) ha, ?_, fun hk => ?_⟩
    · rintro ⟨hk, rfl⟩
      simp [State.afterAddress_read s hk]
    · simp [State.afterAddress_aborted s hab hk]
  · refine ⟨_, exec_writeByteEnd hr he ha ack, ?_⟩
    rw [State.afterWriteByte_aborted s hab]
    exact ⟨rfl, rfl, rfl⟩
  · refine ⟨_, exec_restartEnd hr he ha ack, ?_⟩
    simp only [State.settle_fields]
    refine ⟨State.goesOn_queue_same (s.afterRestart_goesOn k ack) ha, ?_, ?_⟩
    · rintro rfl
      simp [State.afterRestart_ack]
    · rintro rfl
      simp [State.afterRestart_nack, hab]
  · refine ⟨_, exec_readByteEnd hr he ha b, ?_⟩
    have hk : (k.keep b).abort = true := hab
    rw [State.afterReadByte_aborted s hk]
    exact ⟨rfl, rfl, rfl⟩

end Sys2Proof.Machine

/-! The ends of a ticket on the bus: its STOP complete (R47) and a misplaced condition (R51). -/

namespace Sys2Proof.Machine

variable {s u : State} {k : Ticket}

/-! ### The ACTIVE ticket ends -/

/-- The ACTIVE ticket ends in a state that has moved on from `s` in its engine and monitor alone (R10, R12, R20). -/
theorem State.endActive_ended (k : Ticket) (r : Result) (hq : u.queue = s.queue) (hm : u.mirror = s.mirror)
    (hrec : u.records = s.records) (ht : u.time = s.time) (hd : u.dueMarks = s.dueMarks) :
    ticketEnded s (u.endActive k r) k r ∧ (u.endActive k r).queue.active = none := by
  obtain ⟨hend, hact, -, -⟩ := State.finish_effect (u.setActive none) s k r (by simp [hm]) (by simp [hrec])
    (by simp [ht]) (by simp [hq]) (by simp [hd]) (by simp [State.queuedOf, hq])
  exact ⟨hend, hact.trans (by simp)⟩

/-- A direct origin's ACTIVE ticket that a port waits on reaches that port with its outcome (R159, R173). -/
theorem State.endActive_copy {o : Direct} {limit : Nat} (ho : k.orphaned = false) (hk : k.origin = directOrigin o)
    (hw : k.waited = true) (hs : s.slotOf o = .onTicket k.number limit) (r : Result) :
    (s.endActive k r).slotOf o = .ready (responseFrame .ok (k.record r s.time).layout) := by
  have hover : s.endActive k r = (s.setActive none).handOver o k r := by
    simp [State.endActive, State.finish, ho, hk, originDirect_directOrigin]
  have hslot : (s.setActive none).slotOf o = .onTicket k.number limit := by rw [← hs]; cases o <;> rfl
  rw [hover]
  exact State.handOver_copy hw hslot r

/-- A slot is read from no output. -/
theorem State.slotOf_settle (s : State) (o : Direct) : s.settle.slotOf o = s.slotOf o := by cases o <;> rfl

/-! ### The STOP complete (R37, R47) -/

/-- The part as the engine's STOP leaves it to the queue: the engine IDLE, the free time of its rate running. -/
def State.stopped (s : State) : State := (s.setEngine (s.engine.letGo .idle)).ownStop

theorem State.completeStop_eq (s : State) (k : Ticket) (r : Result) :
    s.completeStop k r = s.stopped.endActive k r := rfl

theorem State.stopped_bus (s : State) : s.stopped.engine = s.engine.letGo .idle ∧
    s.stopped.monitor.state = s.monitor.state ∧ s.stopped.monitor.free = some ⟨s.engine.rate.freeTime, false⟩ :=
  ⟨rfl, rfl, rfl⟩

theorem State.stopped_frame (s : State) : s.stopped.queue = s.queue ∧ s.stopped.mirror = s.mirror ∧
    s.stopped.records = s.records ∧ s.stopped.time = s.time ∧ s.stopped.dueMarks = s.dueMarks ∧
    ∀ o, s.stopped.slotOf o = s.slotOf o :=
  ⟨rfl, rfl, rfl, rfl, rfl, fun o => by cases o <;> rfl⟩

theorem exec_stopComplete {r : Result} (hr : s.resetting = none) (he : s.engine.state = .stopping)
    (ha : s.queue.active = some k) (hf : s.engine.fixed = some r) :
    exec .stopComplete s = .next (s.completeStop k r).settle := by
  simp only [exec, execStopComplete, State.running_of he ha, hf]
  exact event_next s _ _ hr rfl

/-- Settles O44: the record's fields, and the end of the ACTIVE ticket once the STOP has been made. -/
theorem stopCompleteEndsTicket : Obligations.StopCompleteEndsTicket := by
  refine ⟨fun k r now => ⟨rfl, rfl⟩, fun s k r hr he ha hf => ⟨_, exec_stopComplete hr he ha hf, ?_⟩⟩
  obtain ⟨heng, hmon, hfree⟩ := s.stopped_bus
  obtain ⟨hq, hmir, hrec, htime, hdue, hslot⟩ := s.stopped_frame
  obtain ⟨hend, hact⟩ := State.endActive_ended k r hq hmir hrec htime hdue
  rw [State.completeStop_eq]
  simp only [State.settle_fields, State.endActive_frame, heng, hmon, hfree, hact]
  refine ⟨rfl, rfl, rfl, rfl, rfl, trivial, trivial, ?_, ticketEnded_settle hend, fun o limit ho hk hw hs => ?_⟩
  · cases s.engine.rate <;> rfl
  · rw [State.answered, State.slotOf_settle, ← htime]
    exact State.endActive_copy ho hk hw ((hslot o).trans hs) r

/-! ### A misplaced condition (R37, R51) -/

/-- What the monitor makes of a START that the engine did not make (R37). -/
theorem State.condSeen_start (s : State) : (s.condSeen .start).monitor.state = .busyForeign ∧
    (s.condSeen .start).monitor.free = none := ⟨rfl, rfl⟩

/-- What the monitor makes of a STOP that the engine did not make (R37; log 14). -/
theorem State.condSeen_stop (s : State) :
    (s.condSeen .stop).monitor.state = (if s.monitor.state = .busyOwn then .busyForeign else s.monitor.state) ∧
      (s.condSeen .stop).monitor.free = some ⟨if s.settings.rate = 400#32 then 15 else 50, false⟩ := by
  have hstate : (s.condSeen .stop).monitor.state = s.foreignStop.monitor.state := rfl
  have hfree : (s.condSeen .stop).monitor.free = some ⟨s.settings.busRate.freeTime, false⟩ := rfl
  rw [hstate, hfree]
  refine ⟨?_, ?_⟩
  · unfold State.foreignStop
    split_ifs <;> rfl
  · unfold Settings.busRate
    split_ifs <;> rfl

/-- The part as a misplaced condition leaves it to the queue. -/
def State.displaced (s : State) (c : Cond) : State := (s.setEngine (s.engine.letGo .idle)).condSeen c

theorem State.misplaced_eq (s : State) (c : Cond) (cut : Sampled) (k : Ticket) : s.misplaced c cut k =
    (s.displaced c).endActive (k.withCut cut) (if k.abort then .cancelled else .misplacedCondition) := rfl

theorem State.displaced_frame (s : State) (c : Cond) : (s.displaced c).engine = s.engine.letGo .idle ∧
    (s.displaced c).queue = s.queue ∧ (s.displaced c).mirror = s.mirror ∧ (s.displaced c).records = s.records ∧
    (s.displaced c).time = s.time ∧ (s.displaced c).dueMarks = s.dueMarks := by
  simp [State.displaced]

theorem EngineState.inTransfer_of_mem {st : EngineState}
    (h : st ∈ [EngineState.address, .write, .restart, .read, .stopping]) : st.inTransfer = true := by
  simp only [List.mem_cons, List.not_mem_nil, or_false] at h
  rcases h with rfl | rfl | rfl | rfl | rfl <;> rfl

/-- Settles O46: the engine and the monitor let go of the transfer, and the ACTIVE ticket ends with what was sampled. -/
theorem misplacedConditionEndsTicket : Obligations.MisplacedConditionEndsTicket := by
  intro s k k' c cut hr ha hin hown hcut
  obtain ⟨hpos, rfl⟩ := cutLeaves_iff.1 hcut
  have hx : exec (.misplacedCondition c cut) s = .next (s.misplaced c cut k).settle := by
    simp only [exec, execMisplacedCondition, State.inTransfer_eq_some.2 ⟨EngineState.inTransfer_of_mem hin, ha⟩]
    exact event_next s _ _ hr hpos
  obtain ⟨heng, hq, hmir, hrec, htime, hdue⟩ := s.displaced_frame c
  obtain ⟨hend, hact⟩ := State.endActive_ended (k.withCut cut) (if k.abort then .cancelled else .misplacedCondition)
    hq hmir hrec htime hdue
  refine ⟨_, hx, ?_⟩
  rw [State.misplaced_eq]
  simp only [State.settle_fields, State.endActive_frame, heng, hact]
  have hmon : (s.displaced c).monitor.state = .busyForeign := by
    cases c with
    | start => rfl
    | stop => exact (State.condSeen_stop _).1.trans (if_pos hown)
  refine ⟨rfl, rfl, rfl, rfl, rfl, trivial, hmon, ?_, ticketEnded_settle hend⟩
  cases c with
  | start => rfl
  | stop => exact (State.condSeen_stop _).2

end Sys2Proof.Machine

/-! The bus monitor: conditions of other parties, the free time, idle detection and the reports of FREE (R37, R38, R40,
R50, R69). -/

namespace Sys2Proof.Machine

variable {s : State}

/-! ### Conditions outside a transfer (R37) -/

theorem EngineState.not_inTransfer_of_mem {st : EngineState}
    (h : st ∈ [EngineState.idle, .backoff, .recovery, .stuck]) : st.inTransfer = false := by
  simp only [List.mem_cons, List.not_mem_nil, or_false] at h
  rcases h with rfl | rfl | rfl | rfl <;> rfl

theorem State.inTransfer_eq_none (h : s.engine.state.inTransfer = false) : s.inTransfer = none := by
  simp [State.inTransfer, h]

/-- Outside the engine's own transfer a condition is the monitor's alone. -/
theorem State.foreignCondition_outside (h : s.engine.state.inTransfer = false) (c : Cond) :
    s.foreignCondition c = s.condSeen c := by
  simp [State.foreignCondition, State.inTransfer_eq_none h]

theorem exec_foreignStart (hr : s.resetting = none) (h : s.engine.state.inTransfer = false) :
    exec .foreignStart s = .next (s.condSeen .start).settle := by
  rw [← State.foreignCondition_outside h]
  exact event_next s _ _ hr rfl

theorem exec_stopSeen (hr : s.resetting = none) (h : s.engine.state.inTransfer = false) :
    exec .stopSeen s = .next (s.condSeen .stop).settle := by
  rw [← State.foreignCondition_outside h]
  exact event_next s _ _ hr rfl

/-! ### FREE (R38, R40, R50, R69) -/

/-- The part with the monitor FREE, before the engine hears of it. -/
def State.monitorFreed (s : State) : State := (s.setFreeTime none).monitorTo .free

theorem State.monitorFreed_monitor (s : State) : s.monitorFreed.monitor.state = .free ∧
    s.monitorFreed.monitor.free = none ∧ s.monitorFreed.monitor.held = none :=
  ⟨rfl, rfl, rfl⟩

theorem State.monitorFreed_frame (s : State) : s.monitorFreed.engine = s.engine ∧ s.monitorFreed.queue = s.queue ∧
    s.monitorFreed.records = s.records ∧ s.monitorFreed.time = s.time :=
  ⟨rfl, rfl, rfl, rfl⟩

/-- A change to FREE is reported to the engine (R40). -/
theorem State.becomeFree_change (h : s.monitor.state ≠ .free) : s.becomeFree = s.monitorFreed.engineHearsFree :=
  if_neg h

theorem State.engineHearsFree_backoff (h : s.engine.state = .backoff) :
    s.engineHearsFree = s.setEngine (s.engine.letGo .idle) := by
  simp [State.engineHearsFree, h]

theorem State.engineHearsFree_stuck (h : s.engine.state = .stuck) :
    s.engineHearsFree = (s.setEngine (s.engine.letGo .idle)).busBack := by
  simp [State.engineHearsFree, h]

/-- In no other state does the engine act on the report (R66). -/
theorem State.engineHearsFree_other (h : s.engine.state ≠ .backoff) (h' : s.engine.state ≠ .stuck) :
    s.engineHearsFree = s := by
  unfold State.engineHearsFree
  split
  · next hs => exact absurd hs h
  · next hs => exact absurd hs h'
  · rfl

/-- A lost bus that is back is told to every direct origin (R69, R74). -/
theorem State.recOf_busBack (h : s.engine.busLost = true) (q : Direct) :
    s.busBack.recOf q = (s.recOf q).arrive .busRecovered .none [] s.time := by
  have hmeant : allDirect.get q = true := by cases q <;> rfl
  rw [State.busBack, if_pos h, State.recOf_notifyEach, if_pos hmeant]
  rfl

/-- The free time passed, or the idle count reached: the monitor becomes FREE. -/
theorem exec_becomeFree {i : Instr} (hr : s.resetting = none) (hm : s.monitor.state ≠ .free)
    (hi : (i = .busFreeTimePassed ∧ s.monitor.free ≠ none) ∨
      (i = .idleDetect ∧ s.engine.state ∈ [EngineState.idle, .backoff, .recovery, .stuck] ∧
        ∃ n, s.monitor.idle = some n ∧ s.settings.idleDetect.toNat + 1 ≤ n)) :
    exec i s = .next s.monitorFreed.engineHearsFree.settle := by
  rw [← State.becomeFree_change hm]
  rcases hi with ⟨rfl, hfree⟩ | ⟨rfl, hst, n, hidle, hn⟩
  · exact event_next s _ _ hr (Option.isSome_iff_ne_none.2 hfree)
  · have hreached : s.idleReached = true := by simpa [State.idleReached, hidle] using hn
    exact event_next s _ _ hr
      (by simp [State.idleFrees, hreached, hm, EngineState.not_inTransfer_of_mem hst])

/-- Settles O50: the monitor's part of a condition, and what the engine makes of the report of FREE. -/
theorem conditionsMoveMonitor : Obligations.ConditionsMoveMonitor := by
  refine ⟨fun s hr hst => ?_, fun s i hr hm hi => ⟨_, exec_becomeFree hr hm hi, ?_⟩⟩
  · have hout := EngineState.not_inTransfer_of_mem hst
    refine ⟨⟨_, exec_foreignStart hr hout, ?_⟩, ⟨_, exec_stopSeen hr hout, ?_⟩⟩
    · simp [s.condSeen_start]
    · simp [s.condSeen_stop]
  · obtain ⟨hstate, hfree, hheld⟩ := s.monitorFreed_monitor
    obtain ⟨heng, hq, hrec, htime⟩ := s.monitorFreed_frame
    simp only [State.settle_fields, State.engineHearsFree_frame, hstate, hfree, hheld, hq, true_and]
    refine ⟨fun hs => ?_, fun hs hlost => ?_, fun hb hs => ?_⟩
    · rw [State.engineHearsFree_backoff (heng.symm ▸ hs)]
      exact ⟨rfl, by simpa using hrec⟩
    · rw [State.engineHearsFree_stuck (heng.symm ▸ hs), State.busBack_engine]
      refine ⟨rfl, rfl, rfl, fun q => ?_⟩
      have hback := State.recOf_busBack (s := s.monitorFreed.setEngine (s.monitorFreed.engine.letGo .idle)) hlost q
      simpa [State.recOf, hrec, htime] using hback
    · rw [State.engineHearsFree_other (heng.symm ▸ hb) (heng.symm ▸ hs)]
      exact ⟨heng, hrec⟩

end Sys2Proof.Machine

/-! The lines of the D-bus: what the monitor and the engine make of their levels (R31 to R33, R38, R39, R46,
R52, R73). -/

namespace Sys2Proof.Machine

variable {s : State} {k : Ticket}

/-! ### Levels seen, falls (R38, R39, R73) -/

/-- The levels seen are those shown, whatever the counts make of them. -/
@[simp] theorem State.see_levels (s : State) (scl sda : Bool) :
    (s.see scl sda).monitor.scl = scl ∧ (s.see scl sda).monitor.sda = sda :=
  ⟨rfl, rfl⟩

/-- With D-SCL low neither the idle count nor the held-data count runs. -/
theorem State.see_scl_low (s : State) (sda : Bool) :
    (s.see false sda).monitor.idle = none ∧ (s.see false sda).monitor.held = none := by
  simp [State.see, Monitor.watch]

/-- Both lines seen high, an idle count begins that does not run yet. -/
theorem State.see_both_high (s : State) (h : s.monitor.idle = none) : (s.see true true).monitor.idle = some 0 := by
  simp [State.see, Monitor.watch, h]

/-- D-SDA alone seen low: no idle count, and in UNKNOWN a held-data count that does not run yet begins. -/
theorem State.see_data_low (s : State) : (s.see true false).monitor.idle = none ∧
    (s.monitor.state = .unknown → s.monitor.held = none →
      (s.see true false).monitor.held = some ⟨s.settings.stuckLimit.toNat, 0⟩) := by
  refine ⟨rfl, fun hstate hheld => ?_⟩
  simp [State.see, Monitor.watch, hstate, hheld, startCount]

/-- A fall that is no START ends the free time. -/
theorem State.lineFalls_free (s : State) : s.lineFalls.monitor.free = none := by
  unfold State.lineFalls
  split_ifs <;> rfl

/-- A fall in FREE that is no START leads to UNKNOWN (R39). -/
theorem State.lineFalls_of_free (h : s.monitor.state = .free) : s.lineFalls.monitor.state = .unknown := by
  rw [State.lineFalls, if_pos (.inl h)]
  rfl

theorem exec_lineFallInFree (hr : s.resetting = none) (hm : s.monitor.state = .free) (line : BusLine) :
    exec (.lineFallInFree line) s = .next (s.lineFalls.seeFall line).settle :=
  event_next s _ _ hr (decide_eq_true hm)

/-- After a fall in FREE no idle count runs: the line that fell is low. -/
theorem State.seeFall_effect (s : State) (line : BusLine) : (s.seeFall line).monitor.state = s.monitor.state ∧
    (s.seeFall line).monitor.free = s.monitor.free ∧ (s.seeFall line).monitor.idle = none ∧
    (s.seeFall line).engine = s.engine := by
  cases line with
  | scl => exact ⟨rfl, rfl, (s.see_scl_low _).1, rfl⟩
  | sda => exact ⟨rfl, rfl, (s.see_scl_low _).1, rfl⟩

/-! ### D-SCL rises (R32, R33, R48; log 41) -/

/-- A rise of D-SCL that no recovery wait is for, and that is no loss of arbitration. -/
theorem exec_sclRises (hr : s.resetting = none) (hscl : s.monitor.scl = false)
    (hrec : ¬(s.engine.state = .recovery ∧ (s.engine.phase = some .waitClock ∨ s.engine.phase = some .pulse)))
    (hcp : s.monitor.sda = false → ∀ k, s.queue.active = some k → ¬s.engine.atCheckPoint k) :
    exec (.dBusLineChange .scl true) s =
      .next ((s.setEngine s.engine.sclRose).see true s.monitor.sda).settle := by
  have hwait : s.engine.awaitsRise = false := by
    rw [Bool.eq_false_iff]
    simpa [Engine.awaitsRise] using hrec
  have hlose : s.riseLoses = false := by
    rw [Bool.eq_false_iff]
    intro hl
    simp only [State.riseLoses, Bool.and_eq_true, Bool.not_eq_true', Option.any_eq_true] at hl
    obtain ⟨hsda, k, hk, hrise⟩ := hl
    exact hcp hsda k (State.inTransfer_eq_some.1 hk).2 ((Engine.checksAtRise_iff _ _).1 hrise)
  exact event_next s _ _ hr (by simp [State.changePossible, State.sclMayRise, hscl, hwait, hlose])

/-! ### D-SCL falls (R32, R33, R35, R46, R52) -/

/-- A fall of D-SCL that does not end a byte, outside FREE. -/
theorem exec_sclFalls (hr : s.resetting = none) (hscl : s.monitor.scl = true) (hm : s.monitor.state ≠ .free)
    (hn : s.engine.atNinth = false) : exec (.dBusLineChange .scl false) s = .next s.sclFalls.settle :=
  event_next s _ _ hr (by simp [State.changePossible, State.sclMayFall, hscl, hm, hn])

theorem State.sclFalls_outside (h : s.engine.state.inTransfer = false) :
    s.sclFalls = s.lineFalls.see false s.monitor.sda := by
  simp [State.sclFalls, State.inTransfer_eq_none h]

/-- In a transfer the engine goes to its next place and drives D-SDA as that place asks; the ticket stays. -/
theorem State.sclFalls_inTransfer (h : s.engine.state.inTransfer = true) (ha : s.queue.active = some k) :
    s.sclFalls.engine = { s.engine with
        bit := nextPlace s.engine.state s.engine.bit, sclDrive := .low
        sdaDrive := sdaAt s.engine.state k (nextPlace s.engine.state s.engine.bit) } ∧
      s.sclFalls.monitor.scl = false ∧ s.sclFalls.queue = s.queue := by
  simp [State.sclFalls, State.inTransfer_eq_some.2 ⟨h, ha⟩, State.clockFell]

/-- The drive in a bit that the engine sends: low for a 0, released for a 1 and for the device's acknowledge bit. -/
theorem sdaAt_sent {st : EngineState} (h : st ∈ [EngineState.address, .write, .restart]) (k : Ticket) (b : Nat) :
    sdaAt st k (some (b + 1)) = if b < 7 ∧ (k.sentByte st).getLsbD (6 - b) = false then .low else .released := by
  have hplace : b + 1 < 8 ↔ b < 7 := by omega
  have hbit : 7 - (b + 1) = 6 - b := by omega
  simp only [List.mem_cons, List.not_mem_nil, or_false] at h
  rcases h with rfl | rfl | rfl <;> simp only [sdaAt, hplace, hbit]

/-- The drive in a bit that the device sends: released, but for the ACK of a byte that another follows. -/
theorem sdaAt_read (k : Ticket) {b : Nat} (hb : b < 8) :
    sdaAt .read k (some (b + 1)) =
      if b = 7 ∧ k.rdata.length + 1 < k.rlen ∧ k.abort = false then .low else .released := by
  have hplace : 8 ≤ b + 1 ↔ b = 7 := by omega
  simp only [sdaAt, hplace, Ticket.acksNext, Bool.and_eq_true, decide_eq_true_eq, Bool.not_eq_true']

/-- The drive in the first bit of the read address that follows a repeated START. -/
theorem sdaAt_restart (k : Ticket) :
    sdaAt .restart k (some 0) = if (k.sentByte .restart).getLsbD 7 then .released else .low := by
  cases hbit : (k.sentByte .restart).getLsbD 7 <;> simp [sdaAt, hbit, -BitVec.getLsbD_eq_getElem]

theorem EngineState.inTransfer_of_sends {st : EngineState} (h : st ∈ [EngineState.address, .write, .restart]) :
    st.inTransfer = true := by
  simp only [List.mem_cons, List.not_mem_nil, or_false] at h
  rcases h with rfl | rfl | rfl <;> rfl

/-- A place within a byte's eight bits is not its acknowledge bit. -/
theorem bit_ne_ninth {bit : Option Nat} {b : Nat} (h : bit = some b) (hb : b < 8) : bit ≠ some 8 := by
  rw [h]
  simp only [ne_eq, Option.some.injEq]
  omega

/-! ### D-SDA changes with D-SCL low (R33, R38) -/

theorem exec_sdaChanges {level : Bool} (hr : s.resetting = none) (hscl : s.monitor.scl = false)
    (hsda : s.monitor.sda ≠ level) (hm : s.monitor.state ≠ .free) (hd : s.engine.sdaDrive = .released) :
    exec (.dBusLineChange .sda level) s = .next (s.lineChanges .sda level).settle :=
  event_next s _ _ hr (by simp [State.changePossible, State.sdaMayChange, hscl, hsda, hm, hd])

theorem State.sdaChanges_effect (hscl : s.monitor.scl = false) (level : Bool) :
    (s.lineChanges .sda level).monitor.sda = level ∧ (s.lineChanges .sda level).monitor.scl = false ∧
      (s.lineChanges .sda level).monitor.idle = none ∧ (s.lineChanges .sda level).engine = s.engine := by
  cases level with
  | true =>
    have hx : s.lineChanges .sda true = s.see false true := by simp [State.lineChanges, hscl]
    simp [hx, State.see_scl_low]
  | false =>
    have hx : s.lineChanges .sda false = s.lineFalls.see false false := by simp [State.lineChanges, hscl]
    simp [hx, State.see_scl_low]

/-! ### Held data (R73) -/

theorem exec_heldDataExpiry {c : Count} (hr : s.resetting = none) (hh : s.monitor.held = some c)
    (hc : c.limit + 1 ≤ c.changes) : exec .heldDataExpiry s = .next s.heldDataExpires.settle :=
  event_next s _ _ hr (by rw [hh]; exact decide_eq_true hc)

/-- An attempt on a bus whose D-SDA alone is low begins with a clock pulse, and no held-data count runs. -/
theorem State.enterRecovery_data_low (s : State) : (s.enterRecovery true false).monitor.held = none ∧
    (s.enterRecovery true false).engine.state = .recovery ∧
    (s.enterRecovery true false).engine.phase = some .pulse ∧ (s.enterRecovery true false).engine.pulses = 0 ∧
    (s.enterRecovery true false).engine.stuckLimit = s.settings.stuckLimit.toNat := by
  simp [State.enterRecovery, State.lookAtData, State.beginPulse, State.see_scl_low, Engine.startWait, Engine.letGo]

theorem State.heldDataExpires_idle (h : s.engine.state = .idle) :
    s.heldDataExpires = s.stopHeld.enterRecovery true false :=
  if_pos h

theorem State.heldDataExpires_other (h : s.engine.state ≠ .idle) : s.heldDataExpires = s.stopHeld :=
  if_neg h

/-! ### The engine's place after a fall of its clock -/

/-- In a transfer, with the monitor BUSY_OWN, a fall of D-SCL before the ninth pulse leads to the next place. -/
theorem sclFalls_nextPlace (hr : s.resetting = none) (hscl : s.monitor.scl = true) (hm : s.monitor.state = .busyOwn)
    (ha : s.queue.active = some k) (hin : s.engine.state.inTransfer = true) (hb : s.engine.bit ≠ some 8) :
    ∃ t, exec (.dBusLineChange .scl false) s = .next t ∧
      t.engine.bit = nextPlace s.engine.state s.engine.bit ∧ t.engine.sclDrive = .low ∧ t.monitor.scl = false ∧
      t.queue = s.queue ∧ t.engine.state = s.engine.state ∧
      t.engine.sdaDrive = sdaAt s.engine.state k (nextPlace s.engine.state s.engine.bit) := by
  obtain ⟨heng, hlow, hq⟩ := State.sclFalls_inTransfer hin ha
  refine ⟨_, exec_sclFalls hr hscl (by rw [hm]; decide) (by simp [Engine.atNinth, hb]), ?_⟩
  simp [heng, hlow, hq]

/-- Settles O51: an event of the lines by the levels and the place it finds. -/
theorem monitorFollowsLines : Obligations.MonitorFollowsLines := by
  refine ⟨fun s line hr hm => ?_, fun s hr hscl hrec hcp => ?_, fun s hr hscl hm hs => ?_,
    fun s level hr hscl hsda hm hd => ?_, fun s k b hr hscl hm hs ha hb hb8 => ?_,
    fun s k hr hscl hm ha => ⟨fun b hs hb hb8 => ?_, fun hs hb => ?_, fun hs hb => ?_⟩, fun s c hr hh hc => ?_⟩
  · obtain ⟨hstate, hfree, hidle, heng⟩ := s.lineFalls.seeFall_effect line
    refine ⟨_, exec_lineFallInFree hr hm line, ?_⟩
    simp [hstate, hfree, hidle, heng, State.lineFalls_of_free hm, State.lineFalls_free]
  · refine ⟨_, exec_sclRises hr hscl hrec hcp, rfl, rfl, rfl, rfl, fun hsda hidle => ?_, fun hsda => ?_,
      fun hsda hstate hheld => ?_⟩
    · rw [hsda]; exact State.see_both_high (s.setEngine s.engine.sclRose) hidle
    · rw [hsda]; exact (s.setEngine s.engine.sclRose).see_data_low.1
    · rw [hsda]; exact (s.setEngine s.engine.sclRose).see_data_low.2 hstate hheld
  · have hout := EngineState.not_inTransfer_of_mem hs
    refine ⟨_, exec_sclFalls hr hscl hm (by simp [Engine.atNinth, hout]), ?_⟩
    simp [State.sclFalls_outside hout, State.see_scl_low, State.see_state_free, State.lineFalls_free]
  · exact ⟨_, exec_sdaChanges hr hscl hsda hm hd, State.sdaChanges_effect hscl level⟩
  · obtain ⟨t, hx, hbit, hlow, hscl', hq, hst, hdrive⟩ :=
      sclFalls_nextPlace hr hscl hm ha (EngineState.inTransfer_of_sends hs) (bit_ne_ninth hb hb8)
    rw [hb] at hbit hdrive
    exact ⟨t, hx, hbit, hlow, hscl', hq, hst, hdrive.trans (sdaAt_sent hs k b)⟩
  · obtain ⟨t, hx, hbit, hlow, -, hq, hst, hdrive⟩ :=
      sclFalls_nextPlace hr hscl hm ha (by rw [hs]; rfl) (bit_ne_ninth hb hb8)
    rw [hs, hb] at hbit hdrive
    exact ⟨t, hx, hbit, hq, hst.trans hs, hlow, hdrive.trans (sdaAt_read k hb8)⟩
  · obtain ⟨t, hx, hbit, hlow, -, hq, hst, hdrive⟩ :=
      sclFalls_nextPlace hr hscl hm ha (by rw [hs]; rfl) (by rw [hb]; decide)
    rw [hs, hb] at hbit hdrive
    exact ⟨t, hx, hbit, hq, hst.trans hs, hlow, hdrive.trans (sdaAt_restart k)⟩
  · obtain ⟨t, hx, hbit, hlow, -, hq, hst, hdrive⟩ :=
      sclFalls_nextPlace hr hscl hm ha (by rw [hs]; rfl) (by rw [hb]; decide)
    rw [hs, hb] at hbit hdrive
    exact ⟨t, hx, hbit, hq, hst.trans hs, hlow, hdrive⟩
  · refine ⟨_, exec_heldDataExpiry hr hh hc, ?_⟩
    simp only [State.settle_fields]
    rcases eq_or_ne s.engine.state .idle with hs | hs
    · rw [State.heldDataExpires_idle hs]
      obtain ⟨hheld, hrest⟩ := s.stopHeld.enterRecovery_data_low
      exact ⟨hheld, fun _ => hrest, fun hn => absurd hs hn⟩
    · rw [State.heldDataExpires_other hs]
      exact ⟨rfl, fun hi => absurd hi hs, fun _ => rfl⟩

end Sys2Proof.Machine

/-! Timeouts (R60) and recovery (R62 to R69, R71): how an attempt begins, its steps, and its two ends. -/

namespace Sys2Proof.Machine

variable {s t u : State} {k : Ticket}

/-! ### The beginning of an attempt (R62 to R64) -/

/-- A clock pulse begins: the engine waits to see D-SCL high. -/
theorem State.beginPulse_engine (s : State) : s.beginPulse.engine =
    { s.engine with phase := some .pulse, wait := some ⟨s.engine.stuckLimit, 0⟩ } := rfl

/-- The recovery STOP begins: the engine pulls D-SDA low and waits to see D-SCL high. -/
theorem State.beginRecoveryStop_engine (s : State) : s.beginRecoveryStop.engine =
    { s.engine with phase := some .stop, wait := some ⟨s.engine.stuckLimit, 0⟩, sdaDrive := .low } := rfl

/-- With D-SCL high, D-SDA decides: the recovery STOP where it is high, else a clock pulse (R64). -/
theorem State.lookAtData_engine (s : State) : s.lookAtData.engine =
    { s.engine with
      phase := some (if s.monitor.sda then .stop else .pulse), wait := some ⟨s.engine.stuckLimit, 0⟩
      sdaDrive := if s.monitor.sda then .low else s.engine.sdaDrive } := by
  unfold State.lookAtData
  split_ifs
  · exact s.beginRecoveryStop_engine
  · exact s.beginPulse_engine

/-- The part of an attempt that the levels of D-SCL and D-SDA lead to (R63, R64). -/
def firstPhase (scl sda : Bool) : RecoveryPhase :=
  if scl then (if sda then .stop else .pulse) else .waitClock

/-- The engine as an attempt begins, whatever it did before: its counts and results gone, the pulses at 0, the stuck
limit read, the bus-lost mark kept. -/
theorem State.enterRecovery_engine (s : State) (scl sda : Bool) : (s.enterRecovery scl sda).engine =
    { s.engine.letGo .recovery with
      stuckLimit := s.settings.stuckLimit.toNat, pulses := 0, phase := some (firstPhase scl sda)
      wait := some ⟨s.settings.stuckLimit.toNat, 0⟩, sdaDrive := if scl && sda then .low else .released } := by
  cases scl with
  | false => rfl
  | true =>
    have hsda := ((s.setEngine { s.engine.letGo .recovery with
      stuckLimit := s.settings.stuckLimit.toNat, pulses := 0 }).see_levels true sda).2
    rw [State.enterRecovery, if_pos rfl, State.lookAtData_engine, hsda]
    cases sda <;> rfl

/-- No held-data count runs in an attempt: D-SCL is low, or the engine pulls it low at once. -/
theorem State.enterRecovery_held (s : State) (scl sda : Bool) : (s.enterRecovery scl sda).monitor.held = none := by
  cases scl with
  | false => exact (State.see_scl_low _ _).2
  | true =>
    rw [State.enterRecovery, if_pos rfl, State.lookAtData]
    split_ifs
    · exact (State.see_scl_low _ _).2
    · exact (State.see_scl_low _ _).2

/-! ### Failure (R67) -/

/-- BUS_STUCK is sent to every direct origin, unless the bus-lost mark is set already. -/
theorem State.recOf_enterStuck (s : State) (q : Direct) : s.enterStuck.recOf q =
    if s.engine.busLost then s.recOf q else (s.recOf q).arrive .busStuck .none [] s.time := by
  have hmeant : allDirect.get q = true := by cases q <;> rfl
  unfold State.enterStuck
  dsimp only
  split_ifs
  · rfl
  · rw [State.recOf_notifyEach, if_pos hmeant]
    rfl

/-! ### The recovery STOP complete (R65) -/

/-- BUS_RECOVERED is sent where the bus had been reported lost, and only there. -/
theorem State.recOf_busBack_eq (s : State) (q : Direct) : s.busBack.recOf q =
    if s.engine.busLost then (s.recOf q).arrive .busRecovered .none [] s.time else s.recOf q := by
  split_ifs with h
  · exact State.recOf_busBack h q
  · rw [State.busBack, if_neg h]

theorem State.completeRecovery_effect (s : State) :
    s.completeRecovery.engine = { s.engine.letGo .idle with busLost := false } ∧
      s.completeRecovery.monitor.free = some ⟨50, true⟩ ∧
      ∀ q, s.completeRecovery.recOf q =
        if s.engine.busLost then (s.recOf q).arrive .busRecovered .none [] s.time else s.recOf q := by
  refine ⟨?_, ?_, fun q => ?_⟩
  · rw [State.completeRecovery, State.busBack_engine]
    rfl
  · simp [State.completeRecovery, Rate.freeTime]
  · exact State.recOf_busBack_eq _ q

/-! ### The events of an attempt -/

/-- A running count has run out at its (N + 1)th change (R57). -/
theorem ranOut_of_le {n : Option Count} {c : Count} (h : n = some c) (hc : c.limit + 1 ≤ c.changes) :
    ranOut n = true := by
  rw [h]
  exact decide_eq_true hc

theorem exec_recoveryClockRise (hr : s.resetting = none) (hs : s.engine.state = .recovery)
    (hp : s.engine.phase = some .waitClock) (sda : Bool) :
    exec (.recoveryClockRise sda) s = .next (s.stopWait.see true sda).lookAtData.settle :=
  event_next s _ _ hr ((s.recovering_iff _).2 ⟨hs, hp⟩)

/-- The part once a pulse has been counted and D-SDA sampled. -/
def State.pulseSampled (s : State) (sda : Bool) : State := s.lineFalls.countPulse.see true sda

theorem exec_recoveryPulse (hr : s.resetting = none) (hs : s.engine.state = .recovery)
    (hp : s.engine.phase = some .pulse) (sda : Bool) :
    exec (.recoveryPulse sda) s = .next ((s.pulseSampled sda).afterPulse sda).settle :=
  event_next s _ _ hr ((s.recovering_iff _).2 ⟨hs, hp⟩)

theorem exec_recoveryStopComplete (hr : s.resetting = none) (hs : s.engine.state = .recovery)
    (hp : s.engine.phase = some .stop) : exec .recoveryStopComplete s = .next s.completeRecovery.settle :=
  event_next s _ _ hr ((s.recovering_iff _).2 ⟨hs, hp⟩)

theorem exec_recoveryStopFail (hr : s.resetting = none) (hs : s.engine.state = .recovery)
    (hp : s.engine.phase = some .stop) : exec .recoveryStopFail s = .next (s.see true false).enterStuck.settle :=
  event_next s _ _ hr ((s.recovering_iff _).2 ⟨hs, hp⟩)

theorem exec_stuckLimitExpiry {c : Count} (hr : s.resetting = none) (hs : s.engine.state = .recovery)
    (hw : s.engine.wait = some c) (hc : c.limit + 1 ≤ c.changes) :
    exec .stuckLimitExpiry s = .next s.seeReleased.enterStuck.settle :=
  event_next s _ _ hr (by simp [hs, ranOut_of_le hw hc])

theorem exec_retryCountExpiry {c : Count} (hr : s.resetting = none) (hs : s.engine.state = .stuck)
    (hw : s.engine.retry = some c) (hc : c.limit + 1 ≤ c.changes) :
    exec .retryCountExpiry s = .next s.attemptRecovery.settle :=
  event_next s _ _ hr (by simp [hs, ranOut_of_le hw hc])

/-! ### The pulses (R64) -/

theorem State.pulseSampled_frame (s : State) (sda : Bool) :
    (s.pulseSampled sda).engine = { s.engine with pulses := s.engine.pulses + 1, wait := none } ∧
      (s.pulseSampled sda).records = s.records ∧ (s.pulseSampled sda).time = s.time ∧
      (s.pulseSampled sda).settings = s.settings := by
  simp [State.pulseSampled, State.countPulse]

/-- A pulse that samples D-SDA high leads to the recovery STOP. -/
theorem State.afterPulse_high (s : State) : s.afterPulse true = s.beginRecoveryStop := rfl

/-- One that samples it low leads to the next pulse while fewer than nine have been given. -/
theorem State.afterPulse_low (h : s.engine.pulses < 9) : s.afterPulse false = s.beginPulse := by
  simp [State.afterPulse, h]

/-- The ninth fails the attempt. -/
theorem State.afterPulse_ninth (h : 9 ≤ s.engine.pulses) : s.afterPulse false = s.enterStuck := by
  simp [State.afterPulse, Nat.not_lt.2 h]

/-- Settles O48: the rise of D-SCL, a pulse by what it samples, and the STOP that ends the attempt. -/
theorem recoverySequence : Obligations.RecoverySequence := by
  refine ⟨fun sda s hr hs hp => ⟨_, exec_recoveryClockRise hr hs hp sda, ?_⟩,
    fun sda s hr hs hp => ⟨_, exec_recoveryPulse hr hs hp sda, ?_⟩,
    fun s hr hs hp => ⟨_, exec_recoveryStopComplete hr hs hp, ?_⟩⟩
  · simp [State.lookAtData_engine, State.stopWait, hs]
  · have heng := (s.pulseSampled_frame sda).1
    simp only [State.settle_fields]
    cases sda with
    | true =>
      rw [State.afterPulse_high, State.beginRecoveryStop_engine, heng]
      simp [hs]
    | false =>
      rcases Nat.lt_or_ge s.engine.pulses 8 with hlt | hge
      · rw [State.afterPulse_low (by rw [heng]; exact Nat.succ_lt_succ hlt), State.beginPulse_engine, heng]
        simp [hs, Nat.not_le.2 hlt]
      · rw [State.afterPulse_ninth (by rw [heng]; exact Nat.succ_le_succ hge), State.enterStuck_engine, heng]
        simp [Engine.letGo, Nat.not_lt.2 hge]
  · obtain ⟨heng, hfree, hrec⟩ := s.completeRecovery_effect
    simp only [State.settle_fields, heng, hfree]
    exact ⟨rfl, rfl, rfl, trivial, trivial, hrec⟩

/-! ### STUCK and the retry (R67, R68) -/

/-- The levels seen at the failure are the monitor's alone. -/
theorem State.seeReleased_frame (s : State) : s.seeReleased.engine = s.engine ∧ s.seeReleased.records = s.records ∧
    s.seeReleased.time = s.time ∧ s.seeReleased.settings = s.settings := by
  unfold State.seeReleased
  split_ifs <;> simp

/-- Each way in which an attempt fails enters STUCK with the bus-lost mark, the records, the time and the settings as
they were. -/
theorem exec_attemptFails {i : Instr} (hr : s.resetting = none) (hs : s.engine.state = .recovery)
    (hi : (i = .stuckLimitExpiry ∧ ∃ c, s.engine.wait = some c ∧ c.limit + 1 ≤ c.changes) ∨
      (i = .recoveryPulse false ∧ s.engine.phase = some .pulse ∧ 8 ≤ s.engine.pulses) ∨
      (i = .recoveryStopFail ∧ s.engine.phase = some .stop)) :
    ∃ u : State, exec i s = .next u.enterStuck.settle ∧ u.engine.busLost = s.engine.busLost ∧ u.records = s.records ∧
      u.time = s.time ∧ u.settings = s.settings := by
  rcases hi with ⟨rfl, c, hw, hc⟩ | ⟨rfl, hp, hn⟩ | ⟨rfl, hp⟩
  · obtain ⟨heng, hrest⟩ := s.seeReleased_frame
    exact ⟨_, exec_stuckLimitExpiry hr hs hw hc, by rw [heng], hrest⟩
  · obtain ⟨heng, hrest⟩ := s.pulseSampled_frame false
    have hninth : 9 ≤ (s.pulseSampled false).engine.pulses := by rw [heng]; exact Nat.succ_le_succ hn
    exact ⟨s.pulseSampled false, State.afterPulse_ninth hninth ▸ exec_recoveryPulse hr hs hp false, by rw [heng], hrest⟩
  · exact ⟨_, exec_recoveryStopFail hr hs hp, by simp⟩

/-- Settles O49: each failure enters STUCK, and the retry count's end begins an attempt as any other. -/
theorem failedRecoveryIsStuck : Obligations.FailedRecoveryIsStuck := by
  refine ⟨fun s i hr hs hi => ?_, fun s c hr hs hw hc => ⟨_, exec_retryCountExpiry hr hs hw hc, ?_⟩⟩
  · obtain ⟨u, hx, hlost, hrec, htime, hset⟩ := exec_attemptFails hr hs hi
    refine ⟨_, hx, ?_⟩
    simp only [State.settle_fields, State.enterStuck_engine, hset]
    refine ⟨rfl, rfl, rfl, rfl, trivial, fun q => ?_⟩
    have hq := u.recOf_enterStuck q
    simpa [State.recOf, hlost, hrec, htime] using hq
  · simp [State.attemptRecovery, State.enterRecovery_engine, Engine.letGo]

/-! ### BUS RECOVER (Table 3.2) -/

/-- With the bus FREE or the engine's own, there is nothing to recover. -/
theorem State.busRecover_free (hs : s.engine.state = .idle)
    (hm : s.monitor.state = .free ∨ s.monitor.state = .busyOwn) : s.busRecover = (s, .answer .ok [0#8]) := by
  rcases hm with hm | hm <;> simp [State.busRecover, hs, hm, recoverAnswer, RecoverOutcome.code]

/-- A bus in use by another party or by the engine is refused. -/
theorem State.busRecover_busy (h : (s.engine.state = .idle ∧ s.monitor.state = .busyForeign) ∨
    s.engine.state ∈ [EngineState.address, .write, .restart, .read, .stopping, .backoff]) :
    s.busRecover = (s, .answer .busy []) := by
  rcases h with ⟨hs, hm⟩ | hs
  · simp [State.busRecover, hs, hm, refuse]
  · simp only [List.mem_cons, List.not_mem_nil, or_false] at hs
    rcases hs with hs | hs | hs | hs | hs | hs <;> simp [State.busRecover, hs, refuse]

/-- An attempt goes on. -/
theorem State.busRecover_recovery (hs : s.engine.state = .recovery) : s.busRecover = (s, .answer .ok [2#8]) := by
  simp [State.busRecover, hs, recoverAnswer, RecoverOutcome.code]

/-- In IDLE on an UNKNOWN bus, and in STUCK, an attempt starts. -/
theorem State.busRecover_started (h : (s.engine.state = .idle ∧ s.monitor.state = .unknown) ∨
    s.engine.state = .stuck) :
    ∃ u scl sda, s.busRecover = (State.enterRecovery u scl sda, .answer .ok [1#8]) ∧ u.engine = s.engine ∧
      u.settings = s.settings ∧ u.records = s.records := by
  rcases h with ⟨hs, hm⟩ | hs
  · exact ⟨s.stopHeld, _, _, by simp only [State.busRecover, hs, hm]; rfl, rfl, rfl, rfl⟩
  · exact ⟨s, _, _, by simp only [State.busRecover, hs]; rfl, rfl, rfl, rfl⟩

/-- The engine, the monitor and the records after a command are those of its act. -/
theorem State.carryOut_bus (s : State) (o : Direct) (act : State → State × Reply) :
    (s.carryOut o act).engine = (act s).1.engine ∧ (s.carryOut o act).monitor = (act s).1.monitor ∧
      (s.carryOut o act).records = (act s).1.records := by
  simp [State.carryOut]

/-- Settles O30: the rows of Table 3.2, each by what the act answers. -/
theorem busRecoverByState : Obligations.BusRecoverByState := by
  intro o s hh
  have hx : exec (.busRecover o) s = .next (s.carryOut o State.busRecover) := command_hands s o _ _ hh
  have hquiet : ∀ {status payload}, s.busRecover = (s, .answer status payload) →
      (∀ p, p ≠ portPart o → p.same s (s.carryOut o State.busRecover)) ∧
        (s.carryOut o State.busRecover).answered o status payload := fun h =>
    ⟨fun p hp => s.carryOut_quiet o _ (by rw [h]) p hp, s.answered_carryOut o _ _ _ (by rw [h])⟩
  refine ⟨_, hx, fun hs hm => hquiet (State.busRecover_free hs hm), fun h => ?_,
    fun h => hquiet (State.busRecover_busy h), fun hs => hquiet (State.busRecover_recovery hs)⟩
  obtain ⟨u, scl, sda, hact, heng, hset, hrec⟩ := State.busRecover_started h
  have hans := s.answered_carryOut o State.busRecover _ _ (congrArg Prod.snd hact)
  obtain ⟨hceng, hcmon, hcrec⟩ := s.carryOut_bus o State.busRecover
  rw [hceng, hcmon, hcrec, hact]
  refine ⟨?_, ?_, u.enterRecovery_held scl sda, ?_, ?_, ?_, ?_, hans⟩ <;>
    simp [State.enterRecovery_engine, Engine.letGo, heng, hset, hrec]

/-! ### Timeouts (R60 to R63) -/

/-- The end of a ticket is read from the queue, the mirror with its due marks, the records and the settings. -/
theorem ticketEnded_congr {r : Result} (hq : u.queue = t.queue) (hm : u.mirror = t.mirror)
    (hd : u.dueMarks = t.dueMarks) (hrec : u.records = t.records) (hset : u.settings = t.settings)
    (h : ticketEnded s t k r) : ticketEnded s u k r := by
  cases t
  cases u
  cases hq
  cases hm
  cases hd
  cases hrec
  cases hset
  exact h

/-- Either limit, run out in a transfer, has the same effect but for the ticket's result. -/
theorem exec_timeOut {cut : Sampled} {scl sda : Bool} {i : Instr} {r : Result} {c : Count} (hr : s.resetting = none)
    (ha : s.queue.active = some k) (hin : s.engine.state.inTransfer = true)
    (hpos : cutPossible s.engine.state k cut = true)
    (hi : (i = .stretchTimeout cut scl sda ∧ r = .stretchTimeout ∧ s.engine.stretch = some c) ∨
      (i = .transactionTimeout cut scl sda ∧ r = .transactionTimeout ∧ s.engine.trans = some c))
    (hc : c.limit + 1 ≤ c.changes) : exec i s = .next (s.timeOut k cut r scl sda).settle := by
  have hk : s.inTransfer = some k := State.inTransfer_eq_some.2 ⟨hin, ha⟩
  rcases hi with ⟨rfl, rfl, hn⟩ | ⟨rfl, rfl, hn⟩
  · simp only [exec, execStretchTimeout, hk]
    exact event_next s _ _ hr (by simp [ranOut_of_le hn hc, hpos])
  · simp only [exec, execTransactionTimeout, hk]
    exact event_next s _ _ hr (by simp [ranOut_of_le hn hc, hpos])

/-- Settles O47: the ACTIVE ticket ends with what was sampled, and the attempt that begins leaves its end alone. -/
theorem timeoutEndsTicketInRecovery : Obligations.TimeoutEndsTicketInRecovery := by
  intro s k k' cut scl sda i r c hr ha hin hcut hi hc
  obtain ⟨hpos, rfl⟩ := cutLeaves_iff.1 hcut
  obtain ⟨hend, hact⟩ := State.endActive_ended (s := s) (k.withCut cut) r rfl rfl rfl rfl rfl
  have hended : ticketEnded s (s.timeOut k cut r scl sda) (k.withCut cut) r := by
    refine ticketEnded_congr ?_ ?_ ?_ ?_ ?_ hend <;> simp [State.timeOut]
  refine ⟨_, exec_timeOut hr ha (EngineState.inTransfer_of_mem hin) hpos hi hc, ?_⟩
  have heng : (s.timeOut k cut r scl sda).engine = _ := State.enterRecovery_engine _ scl sda
  have hq : (s.timeOut k cut r scl sda).queue.active = none := by simpa [State.timeOut] using hact
  simp only [State.settle_fields, heng, hq, State.endActive_frame]
  exact ⟨rfl, rfl, rfl, trivial, trivial, trivial, ticketEnded_settle hended, rfl⟩

end Sys2Proof.Machine

/-! Records and notices: the arrival of a notice (R87), NOTICES (R89, R90) and COLLECT (R79 to R82). -/

namespace Sys2Proof.Machine

variable {s : State}

/-! ### The arrival of a notice (R87) -/

/-- The first undelivered notice that matches takes the arrival. -/
theorem mergeNotice_append_cons {kind : NoticeKind} {subject : Subject} {pre : List Notice} {n : Notice}
    (hpre : ∀ m ∈ pre, ¬(m.kind = kind ∧ m.subject = subject)) (hn : n.kind = kind ∧ n.subject = subject)
    (value : List Byte) (now : Time) (post : List Notice) :
    mergeNotice kind subject value now (pre ++ n :: post) =
      some (pre ++ ⟨kind, subject, min (n.count + 1) 255, value, now⟩ :: post) := by
  induction pre with
  | nil =>
    obtain ⟨rfl, rfl⟩ := hn
    simp [mergeNotice, countUp, Config.maxCount]
  | cons m ms ih =>
    have hm := hpre m List.mem_cons_self
    simp [mergeNotice, if_neg hm, ih fun x hx => hpre x (List.mem_cons_of_mem m hx)]

/-- Where no undelivered notice matches, none takes the arrival. -/
theorem mergeNotice_eq_none {kind : NoticeKind} {subject : Subject} {l : List Notice}
    (h : ∀ m ∈ l, ¬(m.kind = kind ∧ m.subject = subject)) (value : List Byte) (now : Time) :
    mergeNotice kind subject value now l = none := by
  induction l with
  | nil => rfl
  | cons m ms ih =>
    simp [mergeNotice, if_neg (h m List.mem_cons_self), ih fun x hx => h x (List.mem_cons_of_mem m hx)]

/-- Settles O14: the first match takes the merge; with none, the room in the list decides. -/
theorem noticeMergedAppendedOrLost : Obligations.NoticeMergedAppendedOrLost := by
  intro r kind subject value now
  refine ⟨fun pre n post hd hpre hk hs => ?_, fun hnone => ?_⟩
  · simp only [Records.arrive, hd, mergeNotice_append_cons hpre ⟨hk, hs⟩]
  · simp only [Records.arrive, mergeNotice_eq_none hnone]
    exact ⟨fun hlt => if_pos hlt, fun hge => if_neg (Nat.not_lt.2 hge)⟩

/-! ### What a command leaves of the records and the queue -/

/-- The records of an origin after a command are those of its act. -/
theorem State.recOf_carryOut (s : State) (o q : Direct) (act : State → State × Reply) :
    (s.carryOut o act).recOf q = (act s).1.recOf q := by
  simp [State.carryOut, State.recOf]

/-! ### NOTICES (R89, R90) -/

theorem State.fetchNotices_refused {o : Direct} {k n : Nat} (h : (s.recOf o).e < k ∨ 16 < n) (seen : Bool) :
    s.fetchNotices o k seen n = (s, refuse .badParam) := if_pos h

theorem State.fetchNotices_ok {o : Direct} {k n : Nat} (hk : k ≤ (s.recOf o).e) (hn : n ≤ 16) (seen : Bool) :
    s.fetchNotices o k seen n =
      (s.setRec o (((s.recOf o).acknowledgeNotices k seen).reportNotices
          (((s.recOf o).acknowledgeNotices k seen).deliverableNotices n)),
        .answer .ok (((s.recOf o).acknowledgeNotices k seen).noticesPayload
          (((s.recOf o).acknowledgeNotices k seen).deliverableNotices n))) :=
  if_neg (not_or.2 ⟨Nat.not_lt.2 hk, Nat.not_lt.2 hn⟩)

/-- Settles O13: the refusal changes nothing; else the four steps of R90 are those of the model, one by one. -/
theorem noticesAcknowledgesAndDelivers : Obligations.NoticesAcknowledgesAndDelivers := by
  intro o k seen n s hh
  refine ⟨fun h => command_answers hh (State.fetchNotices_refused h _), fun hk hn => ?_⟩
  have hact := State.fetchNotices_ok hk hn (seen.getLsbD 0)
  refine ⟨_, _, _, _, command_hands s o _ _ hh, rfl, rfl, rfl, ?_, s.answered_carryOut o _ _ _ (congrArg Prod.snd hact)⟩
  rw [State.recOf_carryOut, hact]
  exact State.recOf_setRec ..

/-! ### COLLECT (R79 to R82) -/

theorem recordBytes_cons (x : Record) (l : List Record) : recordBytes (x :: l) = x.size + recordBytes l := rfl

theorem packed_le (n : Nat) : ∀ (room : Nat) (l : List Record), packed n room l ≤ n ∧ packed n room l ≤ l.length := by
  induction n with
  | zero => simp [packed]
  | succ n ih =>
    intro room l
    cases l with
    | nil => simp [packed]
    | cons x xs =>
      obtain ⟨h1, h2⟩ := ih (room - x.size) xs
      simp only [packed, List.length_cons]
      split_ifs <;> omega

/-- The records delivered fit. -/
theorem recordBytes_packed (n : Nat) : ∀ (room : Nat) (l : List Record),
    recordBytes (l.take (packed n room l)) ≤ room := by
  induction n with
  | zero => simp [packed, recordBytes]
  | succ n ih =>
    intro room l
    cases l with
    | nil => simp [packed, recordBytes]
    | cons x xs =>
      have h := ih (room - x.size) xs
      simp only [packed]
      split_ifs
      · rw [List.take_succ_cons, recordBytes_cons]
        omega
      · simp [recordBytes]

/-- One more record would not. -/
theorem recordBytes_packed_succ (n : Nat) : ∀ (room : Nat) (l : List Record), packed n room l < n →
    packed n room l < l.length → room < recordBytes (l.take (packed n room l + 1)) := by
  induction n with
  | zero => simp
  | succ n ih =>
    intro room l hn hl
    cases l with
    | nil => simp at hl
    | cons x xs =>
      rw [List.take_succ_cons, recordBytes_cons]
      simp only [packed, List.length_cons] at hn hl ⊢
      split_ifs at hn hl ⊢
      · have h := ih (room - x.size) xs (by omega) (by omega)
        omega
      · omega

/-- The ring of an origin after the first k records are acknowledged (R79, R81). -/
def State.refilledRing (s : State) (o : Direct) (k : Nat) : List Record :=
  (s.recOf o).ring.drop k ++ ((s.waitingOf o).take k).map Ticket.waitingRecord

/-- The state with that ring, before the departures of the moved tickets are reported. -/
def State.refilled (s : State) (o : Direct) (k : Nat) : State :=
  (s.setRec o { s.recOf o with ring := s.refilledRing o k }).setWaiting o ((s.waitingOf o).drop k)

theorem State.acknowledge_eq (s : State) (o : Direct) (k : Nat) : s.acknowledge o k =
    if (s.waitingOf o).take k = [] then s.refilled o k else (s.refilled o k).departed := by
  simp only [State.acknowledge, List.isEmpty_iff]
  rfl

/-- The departures leave the records and the DONE_WAITING tickets. -/
theorem State.acknowledge_effect (s : State) (o : Direct) (k : Nat) :
    (s.acknowledge o k).recOf o = { s.recOf o with ring := s.refilledRing o k } ∧
      (s.acknowledge o k).waitingOf o = (s.waitingOf o).drop k := by
  have hr : (s.refilled o k).recOf o = { s.recOf o with ring := s.refilledRing o k } := by
    simp [State.refilled, State.recOf]
  have hw : (s.refilled o k).waitingOf o = (s.waitingOf o).drop k := State.waitingOf_setWaiting ..
  obtain ⟨⟨posts, hq⟩, -, hrec⟩ := (s.refilled o k).departed_effect
  rw [State.acknowledge_eq]
  split_ifs
  · exact ⟨hr, hw⟩
  · exact ⟨by rw [← hr]; simp only [State.recOf, hrec], by rw [← hw]; simp only [State.waitingOf, hq]⟩

/-- The tickets moved into the ring depart, a retry trigger (R26). -/
theorem State.acknowledge_retried {o : Direct} {k : Nat} (h : (s.waitingOf o).take k ≠ []) :
    s.retriedTo (s.acknowledge o k) := by
  rw [State.acknowledge_eq, if_neg h]
  exact State.retriedTo_congr _ _ _ (by simp [State.refilled]) (by simp [State.refilled]) (by simp [State.refilled])
    (by simp [State.refilled, State.queuedOf]) (s.refilled o k).retryPosts_retried

theorem State.acknowledge_quiet {o : Direct} {k : Nat} (h : (s.waitingOf o).take k = []) :
    (s.acknowledge o k).dueMarks = s.dueMarks ∧ (s.acknowledge o k).queuedOf .p = s.queuedOf .p := by
  rw [State.acknowledge_eq, if_pos h]
  simp [State.refilled, State.queuedOf]

theorem State.collect_refused {o : Direct} {k n : Nat} (h : (s.recOf o).d < k ∨ 8 < n) :
    s.collect o k n = (s, refuse .badParam) := if_pos h

/-- A COLLECT with a right acknowledgement, its steps in order. -/
theorem State.collect_ok {o : Direct} {k n : Nat} (hk : k ≤ (s.recOf o).d) (hn : n ≤ 8) : s.collect o k n =
    ((s.acknowledge o k).setRec o
        { s.recOf o with ring := s.refilledRing o k, d := packed n 70 (s.refilledRing o k) },
      .answer .ok ([byteOf (packed n 70 (s.refilledRing o k)),
          byteOf ((s.refilledRing o k).length - packed n 70 (s.refilledRing o k) + ((s.waitingOf o).length - k))] ++
        ((s.refilledRing o k).take (packed n 70 (s.refilledRing o k))).flatMap Record.layout)) := by
  obtain ⟨hr, hw⟩ := s.acknowledge_effect o k
  have hcheck : ¬((s.recOf o).d < k ∨ Config.maxRing < n) := not_or.2 ⟨Nat.not_lt.2 hk, Nat.not_lt.2 hn⟩
  rw [State.collect, if_neg hcheck]
  simp only [State.collectPayload, Records.deliverable, hr, hw, List.length_drop]
  rfl

/-- Settles O12: the refusal changes nothing; else the refilled ring is given out from its head, and what the moved
tickets' departure has led to stands in the answer's state. -/
theorem collectAcknowledgesAndDelivers : Obligations.CollectAcknowledgesAndDelivers := by
  intro o k n s hh
  refine ⟨fun hk hn => ?_, fun h => command_answers hh (State.collect_refused h)⟩
  have hact := State.collect_ok hk hn
  have hq : (s.carryOut o fun u => u.collect o k.toNat n.toNat).queue = (s.acknowledge o k.toNat).queue := by
    simp [State.carryOut, hact]
  obtain ⟨hle, hlen⟩ := packed_le n.toNat 70 (s.refilledRing o k.toNat)
  have hfit := recordBytes_packed n.toNat 70 (s.refilledRing o k.toNat)
  have hmore := recordBytes_packed_succ n.toNat 70 (s.refilledRing o k.toNat)
  refine ⟨_, packed n.toNat 70 (s.refilledRing o k.toNat), s.refilledRing o k.toNat, command_hands s o _ _ hh, rfl, ?_,
    ?_, fun h => ?_, fun h => ?_, hle, hlen, by omega, fun h1 h2 => ?_,
    s.answered_carryOut o _ _ _ (congrArg Prod.snd hact)⟩
  · rw [State.recOf_carryOut, hact]
    exact State.recOf_setRec ..
  · simp only [State.waitingOf, hq]
    exact (s.acknowledge_effect o k.toNat).2
  · exact State.retriedTo_target (State.acknowledge_retried h) hq (by simp [State.carryOut, hact])
      (by simp [State.carryOut, hact]) (by simp [State.carryOut, hact])
  · obtain ⟨hd, hp⟩ := State.acknowledge_quiet h
    exact ⟨by simpa [State.carryOut, hact] using hd, by simpa only [State.queuedOf, hq] using hp⟩
  · have := hmore h1 h2
    omega

end Sys2Proof.Machine

/-! Outputs (R91, R157, R172, R187): every command that is taken sets them anew. -/

namespace Sys2Proof.Machine

variable {s t : State}

theorem outputsRight_enterReset (s : State) (c : ResetCause) : (s.enterReset c).outputsRight = true :=
  decide_eq_true rfl

theorem outputsRight_atRelease (c : ResetCause) (adsel : Nat) (scl sda : Bool) (l : List Instr) :
    (State.atRelease c adsel scl sda l).outputsRight = true := by
  have ho : (State.atRelease c adsel scl sda l).outputs = State.reset.outputs := by cases c <;> rfl
  have hreset : State.reset.outputsRight = true := by decide
  rw [State.outputsRight, ho]
  exact hreset

/-- Every command keeps the outputs as the state gives them: it is a controller's command, an event, the entry of a
broker reset or its release. -/
theorem exec_outputs (i : Instr) (hs : s.outputsRight = true) (h : exec i s = .next t) : t.outputsRight = true := by
  cases i
  case brokerResetEntry c =>
    cases h
    exact outputsRight_enterReset s c
  case brokerResetRelease a b c d =>
    simp only [exec, execBrokerResetRelease] at h
    split at h <;> cases h
    · exact outputsRight_atRelease ..
    · exact hs
  case submit | transact | cancel | ticketQuery | collect | notices | lease | release | mirrorDefine | mirrorDrop
    | mirrorRead | subscribe | unsubscribe | refresh | settingRead | settingWrite | status | originReset | busRecover =>
    exact command_outputs s t _ _ _ hs h
  case holdLimitExpiry | portCHoldExpiry | ticketStart | addressByteEnd | writeByteEnd | restartEnd | readByteEnd
    | stopComplete | arbitrationLost | misplacedCondition | stretchTimeout | transactionTimeout | deadlineExpiry
    | leaseExpiry | pollDue | staleness =>
    simp only [exec, execHoldLimitExpiry, execPortCHoldExpiry, execTicketStart, execAddressByteEnd, execWriteByteEnd,
      execRestartEnd, execReadByteEnd, execStopComplete, execArbitrationLost, execMisplacedCondition,
      execStretchTimeout, execTransactionTimeout, execDeadlineExpiry, execLeaseExpiry, execPollDue, execStaleness] at h
    split at h <;> exact event_outputs s t _ _ hs h
  case upstreamAddressByte | writeTransferEnd | writeTransferAbort | responseReadComplete | readEndedEarly | noRequest
    | blockStart | blockEnd | recoveryClockRise | recoveryPulse | stuckLimitExpiry | recoveryStopComplete
    | recoveryStopFail | retryCountExpiry | foreignStart | stopSeen | busFreeTimePassed | idleDetect | lineFallInFree
    | heldDataExpiry | brokerTimeTick | dBusLineChange | upstreamStop =>
    exact event_outputs s t _ _ hs h

/-- Settles O56: what every command keeps, every step keeps; the outputs read nothing of the queue of commands. -/
theorem outputsFollowState : Obligations.OutputsFollowState := by
  intro s t hs h
  rcases step_cases h with rfl | ⟨i, rest, he⟩
  · exact hs
  · exact exec_outputs i (s := s.setPending rest) hs he

end Sys2Proof.Machine

/-! The tables: records, settings, leases, the mirror and its due marks (R78, R87, R88, R96, R109, R121, R176). -/

namespace Sys2Proof.Machine

variable {s t u : State}

/-! ### Records (R78, R87, R88) -/

theorem Records.wf_iff (r : Records) : r.wf = true ↔ r.ring.length ≤ 8 ∧ r.d ≤ r.ring.length ∧
    r.notices.length ≤ 16 ∧ r.e ≤ r.notices.length ∧ r.lost ≤ 255 ∧ r.reported ≤ r.lost := by
  simp only [Records.wf, Bool.and_eq_true, decide_eq_true_eq, and_assoc]
  rfl

theorem State.recordsWf_iff (s : State) : s.recordsWf = true ↔ ∀ o, (s.recOf o).wf = true := by
  simp only [State.recordsWf, Bool.and_eq_true]
  exact ⟨fun ⟨⟨ha, hb⟩, hc⟩ o => by cases o <;> assumption, fun h => ⟨⟨h .a, h .b⟩, h .c⟩⟩

/-- A merge leaves the number of notices. -/
theorem length_mergeNotice {kind : NoticeKind} {subject : Subject} {value : List Byte} {now : Time} (l : List Notice) :
    ∀ l', mergeNotice kind subject value now l = some l' → l'.length = l.length := by
  induction l with
  | nil => simp [mergeNotice]
  | cons n ns ih =>
    intro l' h
    unfold mergeNotice at h
    split_ifs at h
    · cases h
      rfl
    · obtain ⟨m, hm, rfl⟩ := Option.map_eq_some_iff.1 h
      simp [ih m hm]

theorem Records.wf_arrive {r : Records} (h : r.wf = true) (kind : NoticeKind) (subject : Subject) (value : List Byte)
    (now : Time) : (r.arrive kind subject value now).wf = true := by
  rw [Records.wf_iff] at h
  obtain ⟨hring, hd, hn, he, hl, hr⟩ := h
  unfold Records.arrive
  split
  · have hlen := length_mergeNotice _ _ (by assumption)
    rw [Records.wf_iff]
    simp only [List.length_append, List.length_take, List.length_drop] at hlen ⊢
    omega
  · have h16 : Config.maxNotices = 16 := rfl
    have h255 : ∀ n, countUp n = min (n + 1) 255 := fun _ => rfl
    split_ifs <;> rw [Records.wf_iff]
    · simp only [List.length_append, List.length_singleton]
      omega
    · simp only [h255]
      omega

/-- What a COLLECT makes of an origin's records: k records less, at most k more, m of them delivered. -/
theorem Records.wf_collected {r : Records} (h : r.wf = true) {k m : Nat} (hk : k ≤ r.d) (l : List Ticket)
    (hm : m ≤ (r.ring.drop k ++ (l.take k).map Ticket.waitingRecord).length) :
    ({ r with ring := r.ring.drop k ++ (l.take k).map Ticket.waitingRecord, d := m } : Records).wf = true := by
  rw [Records.wf_iff] at h ⊢
  refine ⟨?_, hm, h.2.2⟩
  simp only [List.length_append, List.length_drop, List.length_map, List.length_take]
  omega

/-- What a NOTICES makes of them. -/
theorem Records.wf_reported {r : Records} (h : r.wf = true) (k : Nat) (seen : Bool) (n : Nat) :
    ((r.acknowledgeNotices k seen).reportNotices ((r.acknowledgeNotices k seen).deliverableNotices n)).wf = true := by
  rw [Records.wf_iff] at h ⊢
  simp only [Records.reportNotices, Records.deliverableNotices, Records.acknowledgeNotices, List.length_drop]
  split_ifs <;> omega

theorem Records.wf_appended {r : Records} (h : r.wf = true) (hr : r.ring.length < 8) (x : Record) :
    ({ r with ring := r.ring ++ [x] } : Records).wf = true := by
  rw [Records.wf_iff] at h ⊢
  simp only [List.length_append, List.length_singleton]
  omega

/-! ### Settings (R176, R177) -/

theorem Settings.wf_set {x : Settings} (h : x.wf = true) {n : Nat} {v : Field} (hv : settingInRange n v = true) :
    (x.set n v).wf = true := by
  unfold Settings.set
  split <;> simp_all [Settings.wf]

theorem Settings.wf_default : Settings.default.wf = true := by decide

/-! ### Leases (R96, R97) -/

theorem leasesApart_iff (l : List Lease) : leasesApart l = true ↔ (l.map (·.addr)).Nodup := by
  induction l with
  | nil => simp [leasesApart]
  | cons m ms ih =>
    simp only [leasesApart, Bool.and_eq_true, List.all_eq_true, decide_eq_true_eq, ih, List.map_cons, List.nodup_cons,
      List.mem_map, not_exists, not_and]

/-- The lease table is well formed by its addresses alone. -/
theorem State.leasesWf_iff (s : State) : s.leasesWf = true ↔ (s.leases.map (·.addr)).length ≤ 8 ∧
    (s.leases.map (·.addr)).Nodup ∧ ∀ a ∈ s.leases.map (·.addr), usableAddress a = true := by
  have h8 : Config.maxLeases = 8 := rfl
  simp only [State.leasesWf, leasesApart_iff, h8, Bool.and_eq_true, decide_eq_true_eq, List.all_eq_true,
    List.length_map, List.mem_map, forall_exists_index, and_imp, forall_apply_eq_imp_iff₂, and_assoc]

/-- Fewer leases, or others on the same addresses. -/
theorem State.leasesWf_mono (h : (t.leases.map (·.addr)).Sublist (s.leases.map (·.addr))) (hs : s.leasesWf = true) :
    t.leasesWf = true := by
  rw [State.leasesWf_iff] at hs ⊢
  obtain ⟨hlen, hnd, hu⟩ := hs
  exact ⟨h.length_le.trans hlen, h.nodup hnd, fun a ha => hu a (h.subset ha)⟩

theorem State.leasesWf_grant (hs : s.leasesWf = true) {new : Lease} (hn : s.leaseOn new.addr = none)
    (hu : usableAddress new.addr = true) (hlen : s.leases.length < 8) : (s.grant new).leasesWf = true := by
  have hne : new.addr ∉ s.leases.map (·.addr) := by simpa [State.leaseOn] using hn
  rw [State.leasesWf_iff] at hs ⊢
  obtain ⟨-, hnd, hus⟩ := hs
  simp only [State.grant, State.setLeases_fields, List.map_append, List.map_singleton]
  refine ⟨by simpa using hlen, ?_, fun a ha => ?_⟩
  · exact (List.perm_append_singleton _ _).nodup_iff.2 (List.nodup_cons.2 ⟨hne, hnd⟩)
  · rcases List.mem_append.1 ha with ha | ha
    · exact hus a ha
    · rw [List.mem_singleton.1 ha]
      exact hu

/-! ### Due marks (R119 to R121) -/

/-- No due marks but those there were, each of an entry that is still without a poll posted. -/
theorem State.dueMarksWf_mono (hd : (t.dueMarks.map (·.index)).Sublist (s.dueMarks.map (·.index)))
    (hp : ∀ i ∈ t.dueMarks.map (·.index), s.postedMark i = some false → t.postedMark i = some false)
    (h : s.dueMarksWf = true) : t.dueMarksWf = true := by
  rw [State.dueMarksWf_iff_postedMark] at h ⊢
  obtain ⟨hnd, hi⟩ := h
  exact ⟨hd.nodup hnd, fun i hm => hp i hm (hi i (hd.subset hm))⟩

/-- A due mark is set on an entry without a poll posted. -/
theorem State.dueMarksWf_markDue {m : DueMark} (hm : s.postedMark m.index = some false) (h : s.dueMarksWf = true) :
    (s.markDue m).dueMarksWf = true := by
  unfold State.markDue
  split_ifs with hd
  · exact h
  · rw [State.isDue_iff] at hd
    rw [State.dueMarksWf_iff_postedMark] at h ⊢
    obtain ⟨hnd, hi⟩ := h
    have hperm := (insertMark_perm m s.dueMarks).map (·.index)
    refine ⟨hperm.nodup_iff.2 (List.nodup_cons.2 ⟨hd, hnd⟩), fun i hx => ?_⟩
    change s.postedMark i = some false
    rcases List.mem_cons.1 (hperm.mem_iff.1 hx) with rfl | hx
    · exact hm
    · exact hi i hx

theorem State.postedMark_setEntry_of_ne {i j : Nat} (x : Option Entry) (h : j ≠ i) :
    (s.setEntry i x).postedMark j = s.postedMark j := by
  rw [State.postedMark, State.entry_setEntry_of_ne _ _ _ _ h, State.postedMark]

/-- An entry that is there takes the mark of the one put in its place. -/
theorem State.postedMark_setEntry_same {i : Nat} {b : Bool} (x : Option Entry) (h : s.postedMark i = some b) :
    (s.setEntry i x).postedMark i = x.map (·.posted) := by
  obtain ⟨e, he, -⟩ := Option.map_eq_some_iff.1 h
  rw [State.postedMark_setEntry i i x (s.entry_lt i e he), if_pos rfl]

/-! ### What a command keeps of the tables -/

/-- The tables of a state: what is held by neither the queue, nor the bus, nor a port, nor an output. -/
structure Tables where
  settings : Settings
  leases : List Lease
  mirror : List (Option Entry)
  dueMarks : List DueMark
  records : PerDirect Records

def State.tables (s : State) : Tables := ⟨s.settings, s.leases, s.mirror, s.dueMarks, s.records⟩

/-- On the way from one state to another each table has kept its bounds, whatever the others were. -/
structure State.KeepsTables (s t : State) : Prop where
  records : ∀ o, (s.recOf o).wf = true → (t.recOf o).wf = true
  settings : s.settings.wf = true → t.settings.wf = true
  leases : s.leasesWf = true → t.leasesWf = true
  mirror : s.mirrorWf = true → t.mirrorWf = true
  dueMarks : s.dueMarksWf = true → t.dueMarksWf = true

theorem State.KeepsTables.refl (s : State) : s.KeepsTables s := ⟨fun _ => id, id, id, id, id⟩

theorem State.KeepsTables.trans (h1 : s.KeepsTables t) (h2 : t.KeepsTables u) : s.KeepsTables u :=
  ⟨fun o => h2.records o ∘ h1.records o, h2.settings ∘ h1.settings, h2.leases ∘ h1.leases, h2.mirror ∘ h1.mirror,
    h2.dueMarks ∘ h1.dueMarks⟩

/-- The bounds are read from the tables alone. -/
theorem State.KeepsTables.congr {s' t' : State} (hs : s'.tables = s.tables) (ht : t'.tables = t.tables)
    (h : s.KeepsTables t) : s'.KeepsTables t' := by
  cases s; cases t; cases s'; cases t'
  cases hs; cases ht
  exact ⟨h.records, h.settings, h.leases, h.mirror, h.dueMarks⟩

/-- No table changes. -/
theorem State.KeepsTables.of_tables (h : t.tables = s.tables) : s.KeepsTables t := (refl s).congr rfl h

/-- No table changes before. -/
theorem State.KeepsTables.after (h : t.KeepsTables u) (ht : t.tables = s.tables) : s.KeepsTables u :=
  h.congr ht.symm rfl

/-- Each origin's records change alone. -/
theorem State.KeepsTables.of_records (h : t.tables = { s.tables with records := t.records })
    (hr : ∀ o, (s.recOf o).wf = true → (t.recOf o).wf = true) : s.KeepsTables t := by
  have hk : s.KeepsTables (s.setRecords t.records) := ⟨hr, id, id, id, id⟩
  exact hk.congr rfl h

/-- The lease table changes alone. -/
theorem State.KeepsTables.of_leases (h : t.tables = { s.tables with leases := t.leases })
    (hl : s.leasesWf = true → t.leasesWf = true) : s.KeepsTables t := by
  have hk : s.KeepsTables (s.setLeases t.leases) := ⟨fun _ => id, id, hl, id, id⟩
  exact hk.congr rfl h

/-- The mirror and its due marks change alone. -/
theorem State.KeepsTables.of_mirror (h : t.tables = { s.tables with mirror := t.mirror, dueMarks := t.dueMarks })
    (hm : t.mirror.length = s.mirror.length) (hd : s.dueMarksWf = true → t.dueMarksWf = true) : s.KeepsTables t := by
  have hk : s.KeepsTables ((s.setMirror t.mirror).setDueMarks t.dueMarks) :=
    ⟨fun _ => id, id, id, fun hs => decide_eq_true (hm.trans (of_decide_eq_true hs)), hd⟩
  exact hk.congr rfl h

/-! ### The shared operations on the tables -/

theorem State.keeps_notifyEach (s : State) (m : PerDirect Bool) (k : NoticeKind) (b : Subject) (v : List Byte) :
    s.KeepsTables (s.notifyEach m k b v) := by
  refine .of_records (by simp [State.tables]) fun o h => ?_
  rw [State.recOf_notifyEach]
  split_ifs
  · exact Records.wf_arrive h _ _ _ _
  · exact h

theorem State.keeps_notify (s : State) (q : Direct) (k : NoticeKind) (b : Subject) (v : List Byte) :
    s.KeepsTables (s.notify q k b v) := by
  refine .of_records (by simp [State.tables]) fun o h => ?_
  rw [State.recOf_notify]
  split_ifs
  · exact Records.wf_arrive h _ _ _ _
  · exact h

/-- An origin's records are replaced. -/
theorem State.keeps_setRec (s : State) (o : Direct) (r : Records) (hr : (s.recOf o).wf = true → r.wf = true) :
    s.KeepsTables (s.setRec o r) := by
  refine .of_records (by simp [State.tables]) fun q h => ?_
  rcases eq_or_ne q o with rfl | hq
  · simpa using hr h
  · rwa [State.recOf_setRec_of_ne _ _ _ _ hq]

/-- An entry is replaced by one that is without a poll posted where its due mark needs it. -/
theorem State.keeps_setEntry (s : State) (i : Nat) (x : Option Entry)
    (hx : s.postedMark i = some false → x.map (·.posted) = some false) : s.KeepsTables (s.setEntry i x) := by
  refine .of_mirror (by simp [State.tables]) (by simp) (State.dueMarksWf_mono (by simp) fun j _ hj => ?_)
  rcases eq_or_ne j i with rfl | hji
  · rw [State.postedMark_setEntry_same x hj, hx hj]
  · rw [State.postedMark_setEntry_of_ne x hji, hj]

/-- An entry is changed but for its poll-posted mark. -/
theorem State.keeps_updateEntry {i : Nat} {e e' : Entry} (he : s.entry i = some e) (hp : e'.posted = e.posted) :
    s.KeepsTables (s.setEntry i (some e')) :=
  s.keeps_setEntry i _ fun h => by simpa [State.postedMark, he, hp] using h

/-- An entry is replaced by any other, and its due mark cleared. -/
theorem State.keeps_replaceEntry (s : State) (i : Nat) (x : Option Entry) :
    s.KeepsTables ((s.setEntry i x).clearDue i) := by
  refine .of_mirror (by simp [State.tables]) (by simp) (State.dueMarksWf_mono ?_ fun j hj hp => ?_)
  · exact List.filter_sublist.map _
  · have hji : j ≠ i := fun h => State.not_mem_clearDue i (h ▸ hj)
    rw [State.postedMark_congr (s := s.setEntry i x) (by simp), State.postedMark_setEntry_of_ne x hji, hp]

theorem State.keeps_posted (s : State) (i : Nat) (e : Entry) : s.KeepsTables (s.posted i e) :=
  (s.keeps_replaceEntry i (some { e with posted := true })).trans (.of_tables (by
    simp [State.tables, State.posted, State.clearDue]))

theorem State.keeps_markDue {m : DueMark} (hm : s.postedMark m.index = some false) : s.KeepsTables (s.markDue m) :=
  .of_mirror (by simp [State.tables]) (by simp) (State.dueMarksWf_markDue hm)

theorem State.keeps_takeDue (s : State) (i : Nat) (b : Bool) : s.KeepsTables (s.takeDue i b) := by
  unfold State.takeDue
  split
  · exact .refl s
  · rename_i e he
    have h1 : s.KeepsTables (s.setEntry i (some { e with dueReached := false })) := State.keeps_updateEntry he rfl
    dsimp only
    split_ifs with hp
    · exact h1
    · refine h1.trans (State.keeps_markDue ?_)
      rw [State.postedMark_setEntry_same (b := e.posted) _ (by simp [State.postedMark, he])]
      simpa using hp

theorem State.keeps_postEach (l : List DueMark) : ∀ s : State, s.KeepsTables (State.postEach l s) := by
  induction l with
  | nil => exact .refl
  | cons m ms ih =>
    intro s
    unfold State.postEach
    split
    · exact ih s
    · rename_i e _
      unfold State.post
      cases s.noPlace .p with
      | some status => exact .refl s
      | none => exact (s.keeps_posted m.index e).trans (ih _)

theorem State.keeps_retryPosts (s : State) : s.KeepsTables s.retryPosts := State.keeps_postEach s.dueMarks s

theorem State.keeps_departed (s : State) : s.KeepsTables s.departed := s.keeps_retryPosts

theorem State.keeps_fallsDue (s : State) (i : Nat) : s.KeepsTables (s.fallsDue i) :=
  (s.keeps_takeDue i false).trans (State.keeps_retryPosts _)

/-- What each step of a fold keeps, the fold keeps. -/
theorem keeps_foldl {α : Type} (f : State → α → State) (l : List α) (hf : ∀ (u : State) x, u.KeepsTables (f u x))
    (s : State) : s.KeepsTables (l.foldl f s) :=
  foldl_keeps (P := s.KeepsTables) f l (fun u x hu => hu.trans (hf u x)) s (.refl s)

/-! ### The end of a ticket (R10 to R15) -/

/-- A notice to each origin meant, where there is something to tell. -/
theorem State.keeps_notifyEach_ite (s : State) (c : Prop) [Decidable c] (m : PerDirect Bool) (k : NoticeKind)
    (b : Subject) (v : List Byte) : s.KeepsTables (if c then s.notifyEach m k b v else s) := by
  split_ifs
  · exact s.keeps_notifyEach m k b v
  · exact .refl s

/-- A poll result leaves its entry without a poll posted, and tells of it (R124 to R127). -/
theorem State.keeps_pollResult (s : State) (i : Nat) (r : Result) (v : List Byte) :
    s.KeepsTables (s.pollResult i r v) := by
  unfold State.pollResult
  split
  · exact .refl s
  · rename_i e _
    have hdone : s.KeepsTables (s.pollDone i e v) :=
      (((s.keeps_setEntry i _ fun _ => rfl).trans (State.keeps_notifyEach_ite _ _ _ _ _ _)).trans
        (State.keeps_notifyEach_ite _ _ _ _ _ _)).trans (State.keeps_notifyEach_ite _ _ _ _ _ _)
    have hfailed : s.KeepsTables (s.pollFailed i e) :=
      (s.keeps_setEntry i _ fun _ => rfl).trans (State.keeps_notifyEach_ite _ _ _ _ _ _)
    have hneutral : s.KeepsTables (s.pollNeutral i e) := s.keeps_setEntry i _ fun _ => rfl
    cases r <;> assumption

theorem State.keeps_handOver (s : State) (o : Direct) (k : Ticket) (r : Result) : s.KeepsTables (s.handOver o k r) := by
  unfold State.handOver
  have h1 : s.KeepsTables (if k.waited then s.deliverCopy o (k.record r s.time) else s) := by
    split_ifs
    · exact .of_tables (by simp [State.tables])
    · exact .refl s
  generalize (if k.waited then s.deliverCopy o (k.record r s.time) else s) = u at h1 ⊢
  refine h1.trans ?_
  dsimp only
  split_ifs with hlen
  · exact (u.keeps_setRec o _ fun h => Records.wf_appended h hlen _).trans (State.keeps_departed _)
  · exact .of_tables rfl

theorem State.keeps_finish (s : State) (q : Origin) (k : Ticket) (r : Result) : s.KeepsTables (s.finish q k r) := by
  unfold State.finish
  split_ifs
  · exact s.keeps_departed
  · split
    · exact s.keeps_handOver _ k r
    · exact (s.keeps_pollResult _ r _).trans (State.keeps_departed _)

theorem State.keeps_endQueued (s : State) (q : Origin) (k : Ticket) (r : Result) : s.KeepsTables (s.endQueued q k r) :=
  (State.keeps_finish (s.dequeue q k.number) _ _ _).after rfl

theorem State.keeps_endActive (s : State) (k : Ticket) (r : Result) : s.KeepsTables (s.endActive k r) :=
  (State.keeps_finish (s.setActive none) _ _ _).after rfl

theorem State.keeps_lost (s : State) (k : Ticket) : s.KeepsTables (s.lost k) := by
  unfold State.lost
  split_ifs
  · exact s.keeps_finish _ _ _
  · exact s.keeps_finish _ _ _
  · exact s.keeps_finish _ _ _
  · exact s.keeps_finish _ _ _
  · exact .of_tables rfl

/-! ### The engine and the monitor -/

theorem State.keeps_busBack (s : State) : s.KeepsTables s.busBack := by
  unfold State.busBack
  split_ifs
  · exact (State.keeps_notifyEach _ _ _ _ _).after rfl
  · exact .refl s

theorem State.keeps_becomeFree (s : State) : s.KeepsTables s.becomeFree := by
  unfold State.becomeFree State.engineHearsFree
  split_ifs
  · exact .of_tables rfl
  · split
    · exact .of_tables rfl
    · exact (State.keeps_busBack _).after rfl
    · exact .of_tables rfl

theorem State.keeps_enterStuck (s : State) : s.KeepsTables s.enterStuck := by
  unfold State.enterStuck
  dsimp only
  split_ifs
  · exact .of_tables rfl
  · exact (State.keeps_notifyEach _ _ _ _ _).after rfl

/-- A phase of the transfer begins: the engine, the monitor and the ACTIVE ticket change. -/
theorem State.keeps_of_goesOn {k : Ticket} (h : s.goesOn u k) : s.KeepsTables u := by
  obtain ⟨st, bit, f, rfl⟩ := h
  exact .of_tables (by simp [State.tables])

theorem State.keeps_startTicket (s : State) (c : Choice) : s.KeepsTables (s.startTicket c) :=
  .of_tables (by simp [State.tables, State.startTicket, State.takeChoice])

theorem State.keeps_misplaced (s : State) (c : Cond) (cut : Sampled) (k : Ticket) :
    s.KeepsTables (s.misplaced c cut k) :=
  (State.keeps_endActive _ _ _).after (by simp [State.tables])

theorem State.keeps_timeOut (s : State) (k : Ticket) (cut : Sampled) (r : Result) (scl sda : Bool) :
    s.KeepsTables (s.timeOut k cut r scl sda) :=
  (s.keeps_endActive (k.withCut cut) r).trans (.of_tables (by simp [State.tables, State.timeOut]))

theorem State.keeps_foreignCondition (s : State) (c : Cond) : s.KeepsTables (s.foreignCondition c) := by
  unfold State.foreignCondition
  split
  · exact s.keeps_misplaced c _ _
  · exact .of_tables (by simp [State.tables])

theorem State.keeps_attemptRecovery (s : State) : s.KeepsTables s.attemptRecovery :=
  .of_tables (by simp [State.tables, State.attemptRecovery])

theorem State.keeps_busRecover (s : State) : s.KeepsTables s.busRecover.1 := by
  unfold State.busRecover
  split
  · split
    · exact .refl s
    · exact .refl s
    · exact (State.keeps_attemptRecovery s.stopHeld).after rfl
    · exact .refl s
  case h_9 => exact s.keeps_attemptRecovery
  all_goals exact .refl s

theorem State.keeps_recoveryPulse (s : State) (sda : Bool) :
    s.KeepsTables ((s.lineFalls.countPulse.see true sda).afterPulse sda) := by
  have h0 : (s.lineFalls.countPulse.see true sda).tables = s.tables := by simp [State.tables, State.countPulse]
  refine State.KeepsTables.after ?_ h0
  unfold State.afterPulse
  split_ifs
  · exact .of_tables (by simp [State.tables])
  · exact .of_tables (by simp [State.tables])
  · exact State.keeps_enterStuck _

theorem State.tables_seeReleased (s : State) : s.seeReleased.tables = s.tables := by
  unfold State.seeReleased
  split_ifs <;> rfl

theorem State.keeps_heldDataExpires (s : State) : s.KeepsTables s.heldDataExpires := by
  unfold State.heldDataExpires
  split_ifs
  · exact .of_tables (by simp [State.tables, State.stopHeld])
  · exact .of_tables rfl

theorem State.keeps_lineChanges (s : State) (line : BusLine) (level : Bool) :
    s.KeepsTables (s.lineChanges line level) := by
  refine .of_tables ?_
  cases line <;> cases level <;> simp only [State.lineChanges, if_true, Bool.false_eq_true, if_false]
  · unfold State.sclFalls
    split <;> simp [State.tables, State.clockFell]
  all_goals simp [State.tables]

/-! ### The owners' acts -/

theorem State.keeps_submit (s : State) (o : Direct) (req : Except Status Request) :
    s.KeepsTables (s.submit o req).1 := by
  rcases s.submit_cases o req with h | ⟨r, -, h⟩ <;> rw [h]
  · exact .refl s
  · exact .of_tables rfl

theorem State.keeps_transact (s : State) (o : Direct) (req : Except Status Request) :
    s.KeepsTables (s.transact o req).1 := by
  rcases s.transact_cases o req with h | ⟨r, -, h⟩ <;> rw [h]
  · exact .refl s
  · exact .of_tables rfl

theorem State.keeps_cancel (s : State) (o : Direct) (n : Nat) : s.KeepsTables (s.cancel o n).1 := by
  rcases s.cancel_cases o n with ⟨k, -, h⟩ | ⟨k, -, h⟩ | h <;> rw [h]
  · exact s.keeps_endQueued _ k _
  · exact .of_tables rfl
  · exact .refl s

/-- An acknowledgement reaches no other origin's records. -/
theorem State.recOf_acknowledge_of_ne (s : State) {o q : Direct} (k : Nat) (h : q ≠ o) :
    (s.acknowledge o k).recOf q = s.recOf q := by
  have hr : (s.refilled o k).recOf q = s.recOf q := s.recOf_setRec_of_ne o q _ h
  rw [State.acknowledge_eq]
  split_ifs
  · exact hr
  · rw [← hr]
    simp [State.recOf]

theorem State.keeps_acknowledge (s : State) (o : Direct) (k : Nat) :
    (s.refilled o k).KeepsTables (s.acknowledge o k) := by
  rw [State.acknowledge_eq]
  split_ifs
  · exact .refl _
  · exact State.keeps_departed _

/-- The refilled ring is within its bounds only with the new delivered count, which is set behind the departures: the
records are judged at the end, the other tables across the departures. -/
theorem State.keeps_collect (s : State) (o : Direct) (k n : Nat) : s.KeepsTables (s.collect o k n).1 := by
  by_cases hc : (s.recOf o).d < k ∨ 8 < n
  · rw [State.collect_refused hc]
    exact .refl s
  · obtain ⟨hk, hn⟩ := not_or.1 hc
    rw [State.collect_ok (Nat.not_lt.1 hk) (Nat.not_lt.1 hn)]
    have hack := s.keeps_acknowledge o k
    refine ⟨fun q hq => ?_, hack.settings, hack.leases, hack.mirror, hack.dueMarks⟩
    rcases eq_or_ne q o with rfl | hne
    · rw [State.recOf_setRec]
      exact Records.wf_collected hq (Nat.not_lt.1 hk) _ (packed_le n 70 _).2
    · rwa [State.recOf_setRec_of_ne _ _ _ _ hne, s.recOf_acknowledge_of_ne k hne]

theorem State.keeps_fetchNotices (s : State) (o : Direct) (k : Nat) (seen : Bool) (n : Nat) :
    s.KeepsTables (s.fetchNotices o k seen n).1 := by
  unfold State.fetchNotices
  split_ifs
  · exact .refl s
  · exact s.keeps_setRec o _ fun h => Records.wf_reported h k seen n

/-! ### Leases (R97 to R102, R107) -/

/-- Fewer leases, or others on the same addresses. -/
theorem State.keeps_fewerLeases (s : State) {l : List Lease} (h : (l.map (·.addr)).Sublist (s.leases.map (·.addr))) :
    s.KeepsTables (s.setLeases l) :=
  .of_leases rfl (State.leasesWf_mono h)

theorem State.keeps_renew (s : State) (new : Lease) : s.KeepsTables (s.renew new) := by
  refine s.keeps_fewerLeases ?_
  have h : ∀ l : Lease, (if l.addr = new.addr then new else l).addr = l.addr := fun l => by
    split_ifs with hl
    · exact hl.symm
    · rfl
  simp [Function.comp_def, h]

theorem State.keeps_lease (s : State) (o : Direct) (a : Byte) (d : Nat) (f : Byte) :
    s.KeepsTables (s.lease o a d f).1 := by
  unfold State.lease
  split
  · exact .refl s
  · split
    · exact .refl s
    · split
      · exact .refl s
      · rename_i hu
        dsimp only
        split
        · split_ifs
          · exact s.keeps_renew _
          · exact .refl s
        · rename_i hnone
          split_ifs with hlen
          · exact .of_leases rfl fun h => State.leasesWf_grant h hnone (by simpa [State.newLease] using hu) hlen
          · exact .refl s

theorem State.keeps_leasesWithout (s : State) (a : Byte) : s.KeepsTables (s.setLeases (leasesWithout a s.leases)) :=
  s.keeps_fewerLeases (List.filter_sublist.map _)

theorem State.keeps_release (s : State) (o : Direct) (a : Byte) : s.KeepsTables (s.release o a).1 := by
  unfold State.release
  split_ifs
  · exact .refl s
  · split
    · split_ifs
      · exact s.keeps_leasesWithout a
      · exact .refl s
    · exact .refl s

theorem State.keeps_expireLease (s : State) (l : Lease) : s.KeepsTables (s.expireLease l) :=
  (s.keeps_leasesWithout l.addr).trans ((State.keeps_notify _ _ _ _ _).after rfl)

/-! ### The mirror's commands (R111 to R116, R123) -/

theorem State.tables_withdrawPoll (s : State) (i : Nat) : (s.withdrawPoll i).tables = s.tables := by
  unfold State.withdrawPoll
  split_ifs <;> rfl

theorem State.keeps_departed_ite (s : State) (c : Prop) [Decidable c] :
    s.KeepsTables (if c then s.departed else s) := by
  split_ifs
  · exact s.keeps_departed
  · exact .refl s

theorem State.keeps_defineNew (s : State) (o : Direct) (i : Nat) (p : Definition) : s.KeepsTables (s.defineNew o i p) :=
  (s.keeps_setEntry i _ fun _ => rfl).trans (State.keeps_fallsDue _ i)

theorem State.keeps_redefine (s : State) (o : Direct) (i : Nat) (p : Definition) (old : Entry) :
    s.KeepsTables (s.redefine o i p old) := by
  have h1 : s.KeepsTables (s.redefined o i p old) := (State.keeps_replaceEntry _ i _).after (s.tables_withdrawPoll i)
  exact (h1.trans (State.keeps_departed_ite _ _)).trans (State.keeps_fallsDue _ i)

theorem State.keeps_mirrorDefine (s : State) (o : Direct) (x : Byte) (p : Definition) :
    s.KeepsTables (s.mirrorDefine o x p).1 := by
  unfold State.mirrorDefine
  split_ifs
  · exact .refl s
  · split
    · exact .refl s
    · split
      · exact s.keeps_defineNew o _ p
      · exact .refl s
  · split
    · exact .refl s
    · unfold State.defineAt
      split
      · exact s.keeps_defineNew o _ p
      · split_ifs
        · exact s.keeps_redefine o _ p _
        · exact .refl s

theorem State.keeps_dropEntry (s : State) (i : Nat) (e : Entry) : s.KeepsTables (s.dropEntry i e) := by
  have h1 := (State.keeps_notifyEach (s.withdrawPoll i) (e.subs.set e.owner false) .entryDropped (.entry i) []).after
    (s.tables_withdrawPoll i)
  have h2 := h1.trans (State.keeps_replaceEntry _ i none)
  unfold State.dropEntry
  dsimp only
  split_ifs
  · exact h2.trans (State.keeps_departed _)
  · exact h2

theorem State.keeps_mirrorDrop (s : State) (o : Direct) (x : Byte) : s.KeepsTables (s.mirrorDrop o x).1 :=
  State.onEntry_keeps (.refl s) x _ fun e _ => by
    split_ifs
    · exact s.keeps_dropEntry _ e
    · exact .refl s

theorem State.keeps_setSubscribed (s : State) (o : Direct) (x : Byte) (on : Bool) :
    s.KeepsTables (s.setSubscribed o x on).1 :=
  State.onEntry_keeps (.refl s) x _ fun _ he => State.keeps_updateEntry he rfl

theorem State.keeps_refresh (s : State) (x : Byte) : s.KeepsTables (s.refresh x).1 :=
  State.onEntry_keeps (.refl s) x _ fun e _ => by
    split_ifs
    · exact .refl s
    · unfold State.post
      cases s.noPlace .p with
      | some status => exact .refl s
      | none => exact s.keeps_posted _ e

theorem State.keeps_allFallDue (s : State) (due : Time) : s.KeepsTables (s.allFallDue due) := by
  refine (keeps_foldl (State.takeDueOf due) _ (fun u i => ?_) s).trans (State.keeps_retryPosts _)
  unfold State.takeDueOf
  split_ifs
  · exact u.keeps_takeDue i _
  · exact .refl u

/-! ### Settings and ORIGIN RESET (R179 to R181, R185) -/

theorem State.keeps_setSettings {n : Nat} {v : Field} (hv : settingInRange n v = true) :
    s.KeepsTables (s.setSettings (s.settings.set n v)) :=
  ⟨fun _ => id, fun h => Settings.wf_set h hv, id, id, id⟩

theorem State.keeps_settingWrite (s : State) (o : Direct) (n : Nat) (v : Field) :
    s.KeepsTables (s.settingWrite o n v).1 := by
  have htell : ∀ (u : State) (b : Bool), u.KeepsTables (u.tellSetting o n b) := fun u b =>
    u.keeps_notifyEach_ite _ _ _ _ _
  have hquota : ∀ (u : State) (x : Settings), u.KeepsTables (u.quotaWritten n x) := fun u x => u.keeps_departed_ite _
  have hidle : ∀ (u : State) (x : Settings), u.KeepsTables (u.idleDetectWritten n x) := fun u x => by
    unfold State.idleDetectWritten
    split_ifs
    · exact u.keeps_becomeFree
    · exact .refl u
  unfold State.settingWrite
  split_ifs with hv
  · exact (((State.keeps_setSettings hv).trans (htell _ _)).trans (hquota _ _)).trans (hidle _ _)
  · exact .refl s

theorem State.keeps_unsubscribeAll (s : State) (o : Direct) : s.KeepsTables (s.unsubscribeAll o) := by
  refine .of_mirror rfl (by simp [State.unsubscribeAll]) (State.dueMarksWf_mono (List.Sublist.refl _) fun i _ hi => ?_)
  rw [State.postedMark, State.entry_unsubscribeAll, Option.map_map]
  exact hi

theorem State.keeps_originReset (s : State) (o : Direct) : s.KeepsTables (s.originReset o) := by
  have hqueue : s.KeepsTables (s.queueReset o) := (State.keeps_departed_ite _ _).after rfl
  have hlease : s.KeepsTables ((s.queueReset o).leaseReset o) :=
    hqueue.trans (State.keeps_fewerLeases _ (List.filter_sublist.map _))
  have hmirror : s.KeepsTables (((s.queueReset o).leaseReset o).mirrorReset o) := by
    refine (hlease.trans (State.keeps_unsubscribeAll _ o)).trans (keeps_foldl _ _ (fun u i => ?_) _)
    unfold State.dropOwned
    split
    · split_ifs
      · exact u.keeps_dropEntry i _
      · exact .refl u
    · exact .refl u
  exact hmirror.trans (State.keeps_setRec _ o _ fun _ => rfl)

/-! ### Time and reset -/

theorem State.keeps_tick (s : State) : s.KeepsTables s.tick := by
  have hmark : ∀ i, s.tick.postedMark i = s.postedMark i := fun i => by
    simp [State.postedMark, State.entry_tick, Function.comp_def, Entry.tick]
  refine ⟨fun _ => id, id, State.leasesWf_mono ?_, fun h => ?_, State.dueMarksWf_mono ?_ fun i _ hi => ?_⟩
  · simp [State.tick, Lease.tick, Function.comp_def]
  · exact decide_eq_true ((length_tickEntries _ _ _ _).trans (of_decide_eq_true h))
  · simp [State.tick, DueMark.tick, Function.comp_def]
  · rw [hmark, hi]

theorem State.keeps_atRelease (s : State) (c : ResetCause) (adsel : Nat) (scl sda : Bool) (l : List Instr) :
    s.KeepsTables (State.atRelease c adsel scl sda l) :=
  ⟨fun o _ => by cases o <;> rfl, fun _ => Settings.wf_default, fun _ => rfl, fun _ => rfl, fun _ => rfl⟩

theorem State.keeps_enterReset (s : State) (c : ResetCause) : s.KeepsTables (s.enterReset c) :=
  ⟨fun o _ => by cases o <;> rfl, fun _ => Settings.wf_default, fun _ => rfl, fun _ => rfl, fun _ => rfl⟩

/-! ### Every command -/

theorem command_keeps {o : Direct} {i : Instr} {act : State → State × Reply}
    (hact : ∀ u : State, u.KeepsTables (act u).1) (h : command o i act s = .next t) : s.KeepsTables t := by
  have hc : ∀ u : State, u.KeepsTables (u.carryOut o act) := fun u =>
    (hact u).trans (.of_tables (by simp [State.tables, State.carryOut]))
  rcases command_cases s o i act with ⟨-, h1⟩ | ⟨-, h1⟩ | h1 <;> rw [h1] at h <;> cases h
  · exact hc s
  · exact (hc _).after (by simp [State.tables])
  · exact .refl s

theorem event_keeps {possible : Bool} {e : State} (he : s.KeepsTables e) (h : event possible e s = .next t) :
    s.KeepsTables t := by
  rcases event_cases s possible e with ⟨-, -, h1⟩ | h1 <;> rw [h1] at h <;> cases h
  · exact he.trans (.of_tables rfl)
  · exact .refl s

theorem State.tables_setTw (s : State) (port : TwPort) (x : Tw) : (s.setTw port x).tables = s.tables := by
  simp [State.tables]

theorem State.tables_decoded (s : State) (o : Direct) (d : Decoded) : (s.decoded o d).tables = s.tables := by
  cases d <;> simp [State.tables, State.decoded]

theorem State.tables_endWrite (s : State) (port : TwPort) (bytes : List Byte) (c : Cond) :
    (s.endWrite port bytes c).tables = s.tables := by
  unfold State.endWrite
  dsimp only
  split_ifs
  · exact s.tables_setTw port _
  · exact (State.tables_decoded _ _ _).trans (s.tables_setTw port _)

theorem State.tables_endBlock (s : State) (bytes : List Byte) : (s.endBlock bytes).tables = s.tables := by
  unfold State.endBlock State.takeRequest
  dsimp only
  split
  · rfl
  · split_ifs
    · rfl
    · exact State.tables_decoded _ _ _

theorem State.tables_holdExpires (s : State) (o : Direct) (n : Nat) : (s.holdExpires o n).tables = s.tables := by
  simp [State.tables, State.holdExpires]

/-- A port's event reaches no table. -/
theorem exec_portEvent_keeps (i : Instr) (hi : isPortEvent i = true) (h : exec i s = .next t) : s.KeepsTables t := by
  cases i
  case writeTransferEnd => exact event_keeps (.of_tables (s.tables_endWrite _ _ _)) h
  case blockStart => exact event_keeps (.of_tables (by rfl)) h
  case blockEnd => exact event_keeps (.of_tables (s.tables_endBlock _)) h
  case holdLimitExpiry =>
    simp only [exec, execHoldLimitExpiry] at h
    split at h
    · exact event_keeps (.of_tables (s.tables_holdExpires _ _)) h
    all_goals exact event_keeps (.refl s) h
  case portCHoldExpiry =>
    simp only [exec, execPortCHoldExpiry] at h
    split at h
    · exact event_keeps (.of_tables (s.tables_holdExpires _ _)) h
    all_goals exact event_keeps (.refl s) h
  case upstreamAddressByte | writeTransferAbort | responseReadComplete | readEndedEarly | noRequest | upstreamStop =>
    exact event_keeps (.of_tables (s.tables_setTw _ _)) h
  all_goals cases hi

/-- Every command keeps every table within its bounds. -/
theorem exec_keeps (i : Instr) (h : exec i s = .next t) : s.KeepsTables t := by
  by_cases hp : isPortEvent i = true
  · exact exec_portEvent_keeps i hp h
  cases i
  case submit => exact command_keeps (fun u => u.keeps_submit _ _) h
  case transact => exact command_keeps (fun u => u.keeps_transact _ _) h
  case cancel => exact command_keeps (fun u => u.keeps_cancel _ _) h
  case ticketQuery | mirrorRead | settingRead | status => exact command_keeps (fun u => .refl u) h
  case collect => exact command_keeps (fun u => u.keeps_collect _ _ _) h
  case notices => exact command_keeps (fun u => u.keeps_fetchNotices _ _ _ _) h
  case lease => exact command_keeps (fun u => u.keeps_lease _ _ _ _) h
  case release => exact command_keeps (fun u => u.keeps_release _ _) h
  case mirrorDefine => exact command_keeps (fun u => u.keeps_mirrorDefine _ _ _) h
  case mirrorDrop => exact command_keeps (fun u => u.keeps_mirrorDrop _ _) h
  case subscribe | unsubscribe => exact command_keeps (fun u => u.keeps_setSubscribed _ _ _) h
  case refresh => exact command_keeps (fun u => u.keeps_refresh _) h
  case settingWrite => exact command_keeps (fun u => u.keeps_settingWrite _ _ _) h
  case originReset o =>
    exact command_keeps (act := fun u => (u.originReset o, .answer .ok [])) (fun u => u.keeps_originReset o) h
  case busRecover => exact command_keeps (fun u => u.keeps_busRecover) h
  case ticketStart =>
    simp only [exec, execTicketStart] at h
    split at h
    · exact event_keeps (s.keeps_startTicket _) h
    · exact event_keeps (.refl s) h
  case addressByteEnd =>
    simp only [exec, execAddressByteEnd] at h
    split at h
    · exact event_keeps (State.keeps_of_goesOn (s.afterAddress_goesOn _ _)) h
    · exact event_keeps (.refl s) h
  case writeByteEnd =>
    simp only [exec, execWriteByteEnd] at h
    split at h
    · exact event_keeps (State.keeps_of_goesOn (s.afterWriteByte_goesOn _ _)) h
    · exact event_keeps (.refl s) h
  case restartEnd =>
    simp only [exec, execRestartEnd] at h
    split at h
    · exact event_keeps (State.keeps_of_goesOn (s.afterRestart_goesOn _ _)) h
    · exact event_keeps (.refl s) h
  case readByteEnd =>
    simp only [exec, execReadByteEnd] at h
    split at h
    · exact event_keeps (State.keeps_of_goesOn (s.afterReadByte_goesOn _)) h
    · exact event_keeps (.refl s) h
  case stopComplete =>
    simp only [exec, execStopComplete] at h
    split at h
    · exact event_keeps ((s.stopped.keeps_endActive _ _).after rfl) h
    · exact event_keeps (.refl s) h
  case arbitrationLost =>
    simp only [exec, execArbitrationLost] at h
    split at h
    · exact event_keeps ((s.backedOff.keeps_lost _).after rfl) h
    · exact event_keeps (.refl s) h
  case misplacedCondition =>
    simp only [exec, execMisplacedCondition] at h
    split at h
    · exact event_keeps (s.keeps_misplaced _ _ _) h
    · exact event_keeps (.refl s) h
  case stretchTimeout =>
    simp only [exec, execStretchTimeout] at h
    split at h
    · exact event_keeps (s.keeps_timeOut _ _ _ _ _) h
    · exact event_keeps (.refl s) h
  case transactionTimeout =>
    simp only [exec, execTransactionTimeout] at h
    split at h
    · exact event_keeps (s.keeps_timeOut _ _ _ _ _) h
    · exact event_keeps (.refl s) h
  case recoveryClockRise => exact event_keeps (.of_tables (by simp [State.tables, State.stopWait])) h
  case recoveryPulse sda => exact event_keeps (s.keeps_recoveryPulse sda) h
  case stuckLimitExpiry => exact event_keeps ((State.keeps_enterStuck _).after s.tables_seeReleased) h
  case recoveryStopComplete => exact event_keeps ((State.keeps_busBack _).after (by rfl)) h
  case recoveryStopFail => exact event_keeps ((State.keeps_enterStuck _).after (by rfl)) h
  case retryCountExpiry => exact event_keeps s.keeps_attemptRecovery h
  case foreignStart | stopSeen => exact event_keeps (s.keeps_foreignCondition _) h
  case busFreeTimePassed | idleDetect => exact event_keeps s.keeps_becomeFree h
  case lineFallInFree line =>
    refine event_keeps (.of_tables ?_) h
    cases line <;> simp [State.tables, State.seeFall]
  case heldDataExpiry => exact event_keeps s.keeps_heldDataExpires h
  case deadlineExpiry =>
    simp only [exec, execDeadlineExpiry] at h
    split at h
    · exact event_keeps (s.keeps_endQueued _ _ _) h
    · exact event_keeps (.refl s) h
  case leaseExpiry =>
    simp only [exec, execLeaseExpiry] at h
    split at h
    · exact event_keeps (s.keeps_expireLease _) h
    · exact event_keeps (.refl s) h
  case pollDue =>
    simp only [exec, execPollDue] at h
    split at h
    · exact event_keeps (s.keeps_allFallDue _) h
    · exact event_keeps (.refl s) h
  case staleness =>
    simp only [exec, execStaleness] at h
    split at h
    · rename_i e he
      exact event_keeps (State.keeps_updateEntry (e' := { e with status := .stale }) he rfl) h
    · exact event_keeps (.refl s) h
  case brokerTimeTick => exact event_keeps s.keeps_tick h
  case brokerResetEntry c =>
    cases h
    exact s.keeps_enterReset c
  case brokerResetRelease =>
    simp only [exec, execBrokerResetRelease] at h
    split at h <;> cases h
    · exact s.keeps_atRelease _ _ _ _ _
    · exact .refl s
  case dBusLineChange line level => exact event_keeps (s.keeps_lineChanges line level) h
  all_goals exact absurd rfl hp

theorem step_keeps (h : step s = .next t) : s.KeepsTables t := by
  rcases step_cases h with rfl | ⟨i, rest, he⟩
  · exact .refl t
  · exact (exec_keeps i he).after rfl

/-- Settles O57: every step keeps each table within its bounds by itself. -/
theorem tablesStayWellFormed : Obligations.TablesStayWellFormed := by
  refine ⟨fun s t hs h => ?_, fun s t _ hd h => (step_keeps h).dueMarks hd⟩
  obtain ⟨hrec, hset, hlease, hmirror⟩ := hs
  have hk := step_keeps h
  rw [State.recordsWf_iff] at hrec ⊢
  exact ⟨fun o => hk.records o (hrec o), hk.settings hset, hk.leases hlease, hk.mirror hmirror⟩

end Sys2Proof.Machine

/-! Leases: LEASE (R97 to R99, R103) and RELEASE (R100, R104). -/

namespace Sys2Proof.Machine

variable {s : State}

/-! ### The lease table -/

theorem usableAddress_of_range {a : Byte} (h1 : 0x08 ≤ a.toNat) (h2 : a.toNat ≤ 0x77) : usableAddress a = true := by
  simp [usableAddress, h1, h2]

theorem State.leaseOn_eq_none {a : Byte} (h : ∀ m ∈ s.leases, m.addr ≠ a) : s.leaseOn a = none := by
  simpa [State.leaseOn] using h

/-- A renewal takes the place of the one lease on its address (R99). -/
theorem State.renew_split {l new : Lease} {pre post : List Lease} (h : s.leases = pre ++ l :: post)
    (hl : l.addr = new.addr) (hp : ∀ m ∈ pre ++ post, m.addr ≠ new.addr) :
    s.renew new = s.setLeases (pre ++ new :: post) := by
  have hkeep : ∀ x : List Lease, (∀ m ∈ x, m.addr ≠ new.addr) →
      (x.map fun m => if m.addr = new.addr then new else m) = x := fun x hx =>
    (List.map_congr_left fun m hm => if_neg (hx m hm)).trans (List.map_id' x)
  rw [State.renew, h, List.map_append, List.map_cons, if_pos hl, hkeep pre fun m hm => hp m (by simp [hm]),
    hkeep post fun m hm => hp m (by simp [hm])]

/-- Where no lease is on its address, a ticket is not deferred (R23, R104). -/
theorem State.deferred_eq_false {k : Ticket} (h : ∀ m ∈ s.leases, m.addr ≠ k.addr) : s.deferred k = false := by
  rw [State.deferred, List.any_eq_false]
  intro m hm
  simp [Lease.defers, h m hm]

/-- A command whose act sets the lease table: the table it leaves, and its answer. -/
theorem State.carryOut_setLeases {o : Direct} {act : State → State × Reply} {l : List Lease} {status : Status}
    {payload : List Byte} (h : act s = (s.setLeases l, .answer status payload)) :
    (s.carryOut o act).leases = l ∧ (s.carryOut o act).answered o status payload :=
  ⟨by simp [State.carryOut, h], s.answered_carryOut o act _ _ (congrArg Prod.snd h)⟩

/-- A command whose act answers and changes nothing leaves the lease table. -/
theorem State.carryOut_keepsLeases {o : Direct} {act : State → State × Reply} {status : Status} {payload : List Byte}
    (h : act s = (s, .answer status payload)) :
    (s.carryOut o act).leases = s.leases ∧ (s.carryOut o act).answered o status payload :=
  State.carryOut_setLeases (l := s.leases) h

/-- A command whose act sets at most the lease table changes that and its port alone. -/
theorem State.carryOut_leasesAlone {o : Direct} {act : State → State × Reply}
    (h : ∃ l, (act s).1 = s.setLeases l) (p : Part) (hport : p ≠ portPart o) (hp : p ≠ .leases) :
    p.same s (s.carryOut o act) := by
  obtain ⟨l, hl⟩ := h
  exact State.carryOut_same o act p hport (hl ▸ s.setLeases_same p l hp)

/-! ### LEASE (R97 to R99) -/

/-- A LEASE sets at most the lease table. -/
theorem State.lease_setLeases (s : State) (o : Direct) (a : Byte) (d : Nat) (f : Byte) :
    ∃ l, (s.lease o a d f).1 = s.setLeases l := by
  unfold State.lease
  split
  · exact ⟨s.leases, rfl⟩
  · split
    · exact ⟨s.leases, rfl⟩
    · split
      · exact ⟨s.leases, rfl⟩
      · dsimp only
        split <;> split
        · exact ⟨_, rfl⟩
        · exact ⟨s.leases, rfl⟩
        · exact ⟨_, rfl⟩
        · exact ⟨s.leases, rfl⟩

theorem State.lease_badFlags {f : Byte} (h : 1 < f.toNat) (o : Direct) (a : Byte) (d : Nat) :
    s.lease o a d f = (s, refuse .badParam) := if_pos h

theorem State.lease_badDuration {f : Byte} {d : Nat} (hf : f.toNat ≤ 1) (hd : d < 1 ∨ 500 < d) (o : Direct)
    (a : Byte) : s.lease o a d f = (s, refuse .badParam) := by
  rw [State.lease, if_neg (Nat.not_lt.2 hf), if_pos hd]

/-- The flags a LEASE may have are its polls flag alone (R97, R98). -/
theorem pollsFlag_eq {f : Byte} (hf : f.toNat ≤ 1) : f.getLsbD 0 = decide (f = 1#8) := by
  have h : f = 0#8 ∨ f = 1#8 := by
    have : f.toNat = 0 ∨ f.toNat = 1 := by omega
    exact this.imp (fun h => BitVec.eq_of_toNat_eq h) fun h => BitVec.eq_of_toNat_eq h
  rcases h with rfl | rfl <;> rfl

/-- A new lease has its whole duration to go (R98, R99). -/
theorem State.remaining_newLease (s : State) (o : Direct) (a : Byte) (d : Nat) (polls : Bool) :
    s.remaining (s.newLease o a d polls) = BitVec.ofNat 16 (d * 10) := by
  simp [State.remaining, State.newLease, State.after]

section
variable {f : Byte} {d : Nat} (hf : f.toNat ≤ 1) (hmin : 1 ≤ d) (hmax : d ≤ 500)
include hf hmin hmax

theorem State.lease_badAddress {a : Byte} (ha : usableAddress a = false) (o : Direct) :
    s.lease o a d f = (s, refuse .badAddress) := by
  rw [State.lease, if_neg (by omega), if_neg (by omega), if_pos (by simp [ha])]

/-- Past the checks of its parameters, a LEASE goes by the lease on its address, or by the room for one (R97). -/
theorem State.lease_checked {a : Byte} (ha : usableAddress a = true) (o : Direct) : s.lease o a d f =
    (s.leaseOn a).elim
      (if s.leases.length < 8 then
        (s.grant (s.newLease o a d (decide (f = 1#8))), leaseAnswer 0#8 (BitVec.ofNat 16 (d * 10)))
      else (s, refuse .noRoom))
      fun l =>
        if l.holder = o then
          (s.renew (s.newLease o a d (decide (f = 1#8))), leaseAnswer 1#8 (BitVec.ofNat 16 (d * 10)))
        else (s, .answer .held (directCode l.holder :: bytes16 (s.remaining l))) := by
  rw [State.lease, if_neg (by omega), if_neg (by omega), if_neg (by simp [ha]), pollsFlag_eq hf]
  simp only [State.remaining_newLease]
  cases s.leaseOn a <;> rfl

end

/-- Settles O15: each check of R97 decides the act, in their order, and the act gives the table and the answer. -/
theorem leaseGrantedRenewedOrRefused : Obligations.LeaseGrantedRenewedOrRefused := by
  intro o a d f s hh
  refine ⟨_, command_hands s o _ _ hh, State.carryOut_leasesAlone (s.lease_setLeases o a d.toNat f),
    fun hf => State.carryOut_keepsLeases (State.lease_badFlags hf o a _),
    fun hf hd => State.carryOut_keepsLeases (State.lease_badDuration hf hd o a), fun hf hmin hmax => ⟨fun ha => ?_, ?_⟩⟩
  · exact State.carryOut_keepsLeases
      (State.lease_badAddress hf hmin hmax ((usableAddress_eq_false_iff a).2 ha) o)
  · intro ha1 ha2
    have hact := s.lease_checked hf hmin hmax (usableAddress_of_range ha1 ha2) o
    refine ⟨fun l pre post hl hla hp => ?_, fun hnone => ?_⟩
    · have hon : s.leaseOn a = some l := hla ▸ State.leaseOn_split hl (hla ▸ hp)
      rw [hon, Option.elim_some] at hact
      refine ⟨fun hne => State.carryOut_keepsLeases ?_, fun heq => State.carryOut_setLeases ?_⟩
      · rw [hact, if_neg hne]; rfl
      · rw [hact, if_pos heq, State.renew_split hl hla hp]; rfl
    · rw [State.leaseOn_eq_none hnone, Option.elim_none] at hact
      refine ⟨fun hlt => State.carryOut_setLeases ?_, fun hge => State.carryOut_keepsLeases ?_⟩
      · rw [hact, if_pos hlt]; rfl
      · rw [hact, if_neg (Nat.not_lt.2 hge)]; rfl

/-! ### RELEASE (R100) -/

/-- A RELEASE sets at most the lease table. -/
theorem State.release_setLeases (s : State) (o : Direct) (a : Byte) : ∃ l, (s.release o a).1 = s.setLeases l := by
  unfold State.release
  split_ifs
  · exact ⟨s.leases, rfl⟩
  · split
    · split_ifs
      · exact ⟨_, rfl⟩
      · exact ⟨s.leases, rfl⟩
    · exact ⟨s.leases, rfl⟩

theorem State.release_badAddress {a : Byte} (ha : usableAddress a = false) (o : Direct) :
    s.release o a = (s, refuse .badAddress) := if_pos (by simp [ha])

/-- On a usable address, a RELEASE goes by the lease there and its holder. -/
theorem State.release_checked {a : Byte} (ha : usableAddress a = true) (o : Direct) : s.release o a =
    (s.leaseOn a).elim (s, refuse .noSuch) fun l =>
      if l.holder = o then (s.setLeases (leasesWithout a s.leases), .answer .ok []) else (s, refuse .notOwner) := by
  rw [State.release, if_neg (by simp [ha])]
  cases s.leaseOn a <;> rfl

/-- Settles O16: the address, the lease on it and its holder decide the act; with the lease gone none is left on the
address to defer a ticket. -/
theorem releaseRemovesHoldersLease : Obligations.ReleaseRemovesHoldersLease := by
  intro o a s hh
  refine ⟨_, command_hands s o _ _ hh, State.carryOut_leasesAlone (s.release_setLeases o a), fun ha =>
    State.carryOut_keepsLeases (State.release_badAddress ((usableAddress_eq_false_iff a).2 ha) o), fun ha1 ha2 => ?_⟩
  have hact := s.release_checked (usableAddress_of_range ha1 ha2) o
  refine ⟨fun l pre post hl hla hp => ?_, fun hnone => State.carryOut_keepsLeases ?_⟩
  · subst hla
    rw [State.leaseOn_split hl hp, Option.elim_some] at hact
    refine ⟨fun heq => ?_, fun hne => State.carryOut_keepsLeases ?_⟩
    · rw [if_pos heq, hl, leasesWithout_split hp] at hact
      obtain ⟨hleases, hans⟩ := State.carryOut_setLeases (o := o) (act := fun u => u.release o l.addr) hact
      exact ⟨hleases, hans, fun k hk => State.deferred_eq_false (by rw [hleases, hk]; exact hp)⟩
    · rw [hact, if_neg hne]; rfl
  · rw [hact, State.leaseOn_eq_none hnone]; rfl

end Sys2Proof.Machine

/-! The poll engine's posts and due marks (R119 to R122): what each operation makes of an entry, of its due mark and of
P's order. -/

namespace Sys2Proof.Machine

variable {s t u : State} {i : Nat}

/-! ### A command carried out -/

/-- Past its port and the outputs, a command leaves what its act leaves. -/
theorem State.carryOut_frame (s : State) (o : Direct) (act : State → State × Reply) :
    (s.carryOut o act).time = (act s).1.time ∧ (s.carryOut o act).settings = (act s).1.settings ∧
      (s.carryOut o act).queue = (act s).1.queue ∧ (s.carryOut o act).mirror = (act s).1.mirror ∧
      (s.carryOut o act).dueMarks = (act s).1.dueMarks ∧ (s.carryOut o act).records = (act s).1.records := by
  simp [State.carryOut]

/-- An act that answers and changes nothing: neither does its command, but for the port. -/
theorem State.carryOut_answers {o : Direct} {act : State → State × Reply} {status : Status} {payload : List Byte}
    (h : act s = (s, .answer status payload)) :
    (∀ p, p ≠ portPart o → p.same s (s.carryOut o act)) ∧ (s.carryOut o act).answered o status payload :=
  ⟨s.carryOut_quiet o act (congrArg Prod.fst h), s.answered_carryOut o act _ _ (congrArg Prod.snd h)⟩

/-! ### Entries and due marks, read from the mirror and the marks -/

theorem State.entry_congr (h : t.mirror = s.mirror) (i : Nat) : t.entry i = s.entry i := by simp [State.entry, h]

theorem State.isDue_congr (h : t.dueMarks = s.dueMarks) (i : Nat) : t.isDue i = s.isDue i := by simp [State.isDue, h]

theorem State.queuedOf_congr (h : t.queue = s.queue) (o : Origin) : t.queuedOf o = s.queuedOf o := by
  simp [State.queuedOf, h]

theorem State.recOf_congr (h : t.records = s.records) (o : Direct) : t.recOf o = s.recOf o := by simp [State.recOf, h]

theorem State.pollTicket_congr (h : t.time = s.time) (i : Nat) (e : Entry) : t.pollTicket i e = s.pollTicket i e := by
  simp [State.pollTicket, h]

/-- P's place is read from the queue and the settings (R5). -/
theorem State.noPlace_congr (hq : t.queue = s.queue) (hs : t.settings = s.settings) (o : Origin) :
    t.noPlace o = s.noPlace o := by
  simp [State.noPlace, hq, hs]

/-- Check 5 of R5. -/
theorem State.noPlace_full (h : 24 ≤ s.queue.total) (o : Origin) : s.noPlace o = some .refusedFull := if_pos h

/-- Check 6 of R5. -/
theorem State.noPlace_quota {o : Origin} (h : s.queue.total < 24) (hq : s.settings.quota o ≤ s.queue.counted o) :
    s.noPlace o = some .refusedQuota :=
  (if_neg (Nat.not_le.2 h)).trans (if_pos hq)

/-- P has no place where one of the refusals of R121 applies. -/
theorem State.noPlace_ne_none :
    s.noPlace .p ≠ none ↔ 24 ≤ s.queue.total ∨ s.settings.quota .p ≤ s.queue.counted .p := by
  rw [Ne, State.noPlace_eq_none]
  omega

theorem State.isDue_eq_false : s.isDue i = false ↔ ∀ m ∈ s.dueMarks, m.index ≠ i := by
  simp [State.isDue]

theorem State.isDue_nil (h : s.dueMarks = []) (i : Nat) : s.isDue i = false := by simp [State.isDue, h]

theorem State.isDue_clearDue (i j : Nat) : (s.clearDue i).isDue j = (s.isDue j && decide (j ≠ i)) := by
  rw [Bool.eq_iff_iff]
  simp only [State.isDue, State.clearDue, State.setDueMarks_fields, List.any_eq_true, List.mem_filter,
    decide_eq_true_eq, Bool.and_eq_true]
  constructor
  · rintro ⟨m, ⟨hm, hi⟩, rfl⟩
    exact ⟨⟨m, hm, rfl⟩, hi⟩
  · rintro ⟨⟨m, hm, rfl⟩, hi⟩
    exact ⟨m, ⟨hm, hi⟩, rfl⟩

/-- Where the mirror is the old one with one entry set, that entry is the new one and every other the old one. -/
theorem State.entry_of_setEntry {e e' : Entry} (he : s.entry i = some e)
    (hm : t.mirror = (s.setEntry i (some e')).mirror) :
    t.entry i = some e' ∧ ∀ j, j ≠ i → t.entry j = s.entry j := by
  refine ⟨?_, fun j hj => ?_⟩
  · rw [State.entry_congr hm, State.entry_setEntry _ _ _ (s.entry_lt i e he)]
  · rw [State.entry_congr hm, State.entry_setEntry_of_ne _ _ _ _ hj]

/-! ### The same entries but for poll-posted marks -/

theorem State.sameEntries.but (h : t.sameEntries s) (i : Nat) : t.sameEntriesBut s i := fun j _ => h j

theorem State.sameEntriesBut.trans (h1 : t.sameEntriesBut s i) (h2 : u.sameEntriesBut t i) : u.sameEntriesBut s i :=
  fun j hj => (h2 j hj).trans (h1 j hj)

theorem State.sameEntriesBut_of_entry (h : ∀ j, j ≠ i → t.entry j = s.entry j) : t.sameEntriesBut s i :=
  fun j hj => by rw [h j hj]

theorem State.sameEntriesBut_setEntry (s : State) (i : Nat) (x : Option Entry) : (s.setEntry i x).sameEntriesBut s i :=
  State.sameEntriesBut_of_entry fun j hj => s.entry_setEntry_of_ne i j x hj

theorem State.sameEntriesBut_of_mirror (h : t.mirror = s.mirror) (i : Nat) : t.sameEntriesBut s i :=
  State.sameEntriesBut_of_entry fun j _ => State.entry_congr h j

/-! ### Posts (R120 to R122) -/

theorem State.isDue_posted (i : Nat) (e : Entry) (j : Nat) :
    (s.posted i e).isDue j = (s.isDue j && decide (j ≠ i)) := by
  rw [State.posted, State.isDue_clearDue]
  simp [State.isDue]

/-- P's order after an admitted post (R120). -/
theorem State.queuedOf_posted (i : Nat) (e : Entry) :
    (s.posted i e).queuedOf .p = s.queuedOf .p ++ [s.pollTicket i e] := by
  simp only [State.queuedOf, State.posted_queue, PerOrigin.get, State.newTicket_pollTicket]

/-- Trying posts keeps what an admitted post of an entry that the list names keeps. -/
theorem State.postEach_induct {P : State → Prop} (l : List DueMark)
    (hP : ∀ m ∈ l, ∀ u e, u.entry m.index = some e → P u → P (u.posted m.index e)) :
    ∀ s : State, P s → P (State.postEach l s) := by
  induction l with
  | nil => exact fun _ h => h
  | cons m ms ih =>
    have ih := ih fun n hn => hP n (List.mem_cons_of_mem m hn)
    intro s h
    unfold State.postEach State.post
    cases he : s.entry m.index with
    | none => exact ih s h
    | some e =>
      cases s.noPlace .p with
      | some _ => exact h
      | none => exact ih _ (hP m (by simp) s e he h)

/-- Where P has no place, no waiting entry posts (R121, R122). -/
theorem State.postEach_noPlace (h : s.noPlace .p ≠ none) (l : List DueMark) : State.postEach l s = s := by
  obtain ⟨status, hn⟩ := Option.ne_none_iff_exists'.1 h
  induction l with
  | nil => rfl
  | cons m ms ih =>
    unfold State.postEach State.post
    cases s.entry m.index with
    | none => exact ih
    | some e => simp [hn]

theorem State.retryPosts_noPlace (h : s.noPlace .p ≠ none) : s.retryPosts = s := State.postEach_noPlace h _

theorem State.retryPosts_nil (h : s.dueMarks = []) : s.retryPosts = s := by
  rw [State.retryPosts, h]
  rfl

/-- The one entry that waits posts where P has a place. -/
theorem State.retryPosts_single {m : DueMark} {e : Entry} (hd : s.dueMarks = [m]) (he : s.entry m.index = some e)
    (hn : s.noPlace .p = none) : s.retryPosts = s.posted m.index e := by
  simp [State.retryPosts, hd, State.postEach, he, State.post, hn]

/-- A retry trigger leaves an entry that does not wait. -/
theorem State.retryPosts_idle (h : s.isDue i = false) :
    s.retryPosts.entry i = s.entry i ∧ s.retryPosts.isDue i = false := by
  refine State.postEach_induct (P := fun u => u.entry i = s.entry i ∧ u.isDue i = false) s.dueMarks ?_ s ⟨rfl, h⟩
  rintro m hm u e he ⟨hu, hd⟩
  have hne : i ≠ m.index := fun hx => State.isDue_eq_false.1 h m hm hx.symm
  exact ⟨by rw [u.entry_posted _ e he, if_neg hne, hu], by simp [State.isDue_posted, hd]⟩

/-- An entry that waits has posted after a retry trigger, or waits on. -/
theorem State.retryPosts_waiting {e : Entry} (he : s.entry i = some e) (hp : e.posted = false) (h : s.isDue i = true) :
    ∃ b, s.retryPosts.entry i = some { e with posted := b } ∧ s.retryPosts.isDue i = !b := by
  refine State.postEach_induct (P := fun u => ∃ b, u.entry i = some { e with posted := b } ∧ u.isDue i = !b)
    s.dueMarks ?_ s ⟨false, by rw [he, ← hp], h⟩
  rintro m - u x hx ⟨b, hb, hd⟩
  by_cases hi : i = m.index
  · subst hi
    obtain rfl : x = _ := Option.some.inj (hx.symm.trans hb)
    exact ⟨true, by rw [u.entry_posted _ _ hx, if_pos rfl], by simp [State.isDue_posted]⟩
  · exact ⟨b, by rw [u.entry_posted _ x hx, if_neg hi, hb], by simp [State.isDue_posted, hd, hi]⟩

/-! ### Due times (R119) -/

theorem State.markDue_marked (h : s.isDue i = true) (b : Bool) : s.markDue ⟨i, b⟩ = s := if_pos h

theorem State.markDue_unmarked (h : s.isDue i = false) (b : Bool) :
    s.markDue ⟨i, b⟩ = s.setDueMarks (insertMark ⟨i, b⟩ s.dueMarks) := by
  rw [State.markDue, if_neg (by simp [h])]

theorem State.isDue_markDue (s : State) (i : Nat) (b : Bool) : (s.markDue ⟨i, b⟩).isDue i = true := by
  cases h : s.isDue i
  · rw [State.markDue_unmarked h, State.isDue_iff]
    exact ((insertMark_perm _ _).map _).mem_iff.2 (by simp)
  · rwa [State.markDue_marked h]

/-- An entry once its due time has been taken (R119). -/
def Entry.dueTaken (e : Entry) : Entry := { e with dueReached := false }

/-- What a poll ticket asks for is not changed by the marks of its entry (R120). -/
theorem State.pollTicket_dueTaken (s : State) (i : Nat) (e : Entry) :
    s.pollTicket i e.dueTaken = s.pollTicket i e := rfl

section
variable {e : Entry} (he : s.entry i = some e)
include he

/-- The due time of an entry with a poll posted passes (R119). -/
theorem State.takeDue_posted (hp : e.posted = true) (b : Bool) : s.takeDue i b = s.setEntry i (some e.dueTaken) := by
  simp [State.takeDue, he, hp, Entry.dueTaken]

/-- The due time of an entry without a poll posted sets its due mark (R119). -/
theorem State.takeDue_unposted (hp : e.posted = false) (b : Bool) :
    s.takeDue i b = (s.setEntry i (some e.dueTaken)).markDue ⟨i, b⟩ := by
  simp [State.takeDue, he, hp, Entry.dueTaken]

theorem State.entry_takeDue (b : Bool) (j : Nat) :
    (s.takeDue i b).entry j = if j = i then some e.dueTaken else s.entry j := by
  have hm : (s.takeDue i b).mirror = (s.setEntry i (some e.dueTaken)).mirror := by
    cases hp : e.posted
    · simp [State.takeDue_unposted he hp]
    · rw [State.takeDue_posted he hp]
  rw [State.entry_congr hm]
  split_ifs with hj
  · subst hj
    exact State.entry_setEntry _ _ _ (s.entry_lt j e he)
  · exact State.entry_setEntry_of_ne _ _ _ _ hj

theorem State.isDue_takeDue (hp : e.posted = false) (b : Bool) : (s.takeDue i b).isDue i = true := by
  rw [State.takeDue_unposted he hp]
  exact State.isDue_markDue _ i b

/-- A definition's due mark stands behind every mark set before it (log 37). -/
theorem State.dueMarks_takeDue (hp : e.posted = false) (hd : s.isDue i = false) :
    (s.takeDue i false).dueMarks = s.dueMarks ++ [⟨i, false⟩] := by
  have hd' : (s.setEntry i (some e.dueTaken)).isDue i = false := (State.isDue_congr (by simp) i).trans hd
  rw [State.takeDue_unposted he hp, State.markDue_unmarked hd']
  exact insertMark_eq_append _ _ fun _ _ h => absurd h (by simp)

/-! ### An entry falls due at its definition (R112, R113, R122) -/

/-- It posts or waits; the other entries keep all but their poll-posted marks. -/
theorem State.fallsDue_effect (hp : e.posted = false) :
    (∃ b, (s.fallsDue i).entry i = some { e.dueTaken with posted := b } ∧ (s.fallsDue i).isDue i = !b) ∧
      (s.fallsDue i).sameEntriesBut s i := by
  have hent : (s.takeDue i false).entry i = some e.dueTaken := by rw [State.entry_takeDue he, if_pos rfl]
  refine ⟨State.retryPosts_waiting hent hp (State.isDue_takeDue he hp false), State.sameEntriesBut.trans
    (State.sameEntriesBut_of_entry fun j hj => ?_) ((State.retryPosts_effect _).2.but i)⟩
  rw [State.entry_takeDue he, if_neg hj]

/-- With no place for P it waits behind all that waited before it. -/
theorem State.fallsDue_noPlace (hp : e.posted = false) (hd : s.isDue i = false) (hn : s.noPlace .p ≠ none) :
    (s.fallsDue i).entry i = some e.dueTaken ∧ (s.fallsDue i).dueMarks = s.dueMarks ++ [⟨i, false⟩] ∧
      (s.fallsDue i).queue = s.queue := by
  have hx : s.fallsDue i = s.takeDue i false := State.retryPosts_noPlace (by
    rwa [State.noPlace_congr (s := s) (by simp) (by simp)])
  rw [hx]
  exact ⟨by rw [State.entry_takeDue he, if_pos rfl], State.dueMarks_takeDue he hp hd, by simp⟩

/-- With nothing else waiting and a place for P, its poll is posted. -/
theorem State.fallsDue_alone (hp : e.posted = false) (hd : s.dueMarks = []) (hn : s.noPlace .p = none) :
    (s.fallsDue i).entry i = some { e.dueTaken with posted := true } ∧ (s.fallsDue i).dueMarks = [] ∧
      (s.fallsDue i).queuedOf .p = s.queuedOf .p ++ [s.pollTicket i e] := by
  have hmarks : (s.takeDue i false).dueMarks = [⟨i, false⟩] := by
    rw [State.dueMarks_takeDue he hp (State.isDue_nil hd i), hd, List.nil_append]
  have hent : (s.takeDue i false).entry i = some e.dueTaken := by rw [State.entry_takeDue he, if_pos rfl]
  have hx : s.fallsDue i = (s.takeDue i false).posted i e.dueTaken :=
    State.retryPosts_single hmarks hent ((State.noPlace_congr (by simp) (by simp) _).trans hn)
  rw [hx]
  refine ⟨by rw [State.entry_posted _ _ _ hent, if_pos rfl], by simp [State.posted, State.clearDue, hmarks], ?_⟩
  rw [State.queuedOf_posted, State.queuedOf_congr (s := s) (by simp), State.pollTicket_dueTaken,
    State.pollTicket_congr (s := s) (by simp)]

end

end Sys2Proof.Machine

/-! The mirror's commands on defined entries: MIRROR READ (R117), SUBSCRIBE and UNSUBSCRIBE (R116), REFRESH (R123). -/

namespace Sys2Proof.Machine

variable {s : State}

/-! ### The first checks of an entry command (R114, R116, R123) -/

section
variable {x : Byte} (act : Entry → State × Reply)

theorem State.onEntry_above (h : 31 < x.toNat) : s.onEntry x act = (s, refuse .badParam) := if_pos h

theorem State.onEntry_empty (h : x.toNat ≤ 31) (he : s.entry x.toNat = none) :
    s.onEntry x act = (s, refuse .noSuch) := by
  simp [State.onEntry, Nat.not_lt.2 h, he]

theorem State.onEntry_defined {e : Entry} (h : x.toNat ≤ 31) (he : s.entry x.toNat = some e) :
    s.onEntry x act = act e := by
  simp [State.onEntry, Nat.not_lt.2 h, he]

end

/-! ### MIRROR READ (R117) -/

theorem State.mirrorRead_badLength {xs : List Byte} (h : xs.length = 0 ∨ 8 < xs.length) :
    s.mirrorRead xs = refuse .badLength := by
  refine if_pos ?_
  simp only [indicesFit, Bool.not_eq_true', Bool.and_eq_false_iff, decide_eq_false_iff_not]
  omega

section
variable {xs : List Byte} (h1 : 1 ≤ xs.length) (h8 : xs.length ≤ 8)
include h1 h8

theorem State.mirrorRead_above (h : ∃ x ∈ xs, 31 < x.toNat) : s.mirrorRead xs = refuse .badParam := by
  rw [State.mirrorRead, if_neg (by simp [indicesFit, h1, h8]), if_pos (by simpa using h)]

theorem State.mirrorRead_items (h : ∀ x ∈ xs, x.toNat ≤ 31) : s.mirrorRead xs =
    .answer .ok (byteOf xs.length :: xs.flatMap fun x => itemLayout (s.entry x.toNat)) := by
  rw [State.mirrorRead, if_neg (by simp [indicesFit, h1, h8]), if_neg (by simpa using h)]

end

/-- Settles O21: a MIRROR READ changes nothing, and its answer goes by the number of indices and by each of them. -/
theorem mirrorReadCarriesItems : Obligations.MirrorReadCarriesItems := by
  intro o xs s hh
  refine ⟨_, command_hands s o _ _ hh, s.carryOut_quiet o _ rfl, fun h => ?_, fun h1 h8 h => ?_, fun h1 h8 h => ?_⟩
  · exact s.answered_carryOut o _ _ _ (State.mirrorRead_badLength h)
  · exact s.answered_carryOut o _ _ _ (State.mirrorRead_above h1 h8 h)
  · have hans := s.answered_carryOut o (fun u => (u, u.mirrorRead xs)) _ _ (State.mirrorRead_items h1 h8 h)
    convert hans using 4 with x
    unfold itemLayout
    cases s.entry x.toNat with
    | none => rfl
    | some e => cases hv : e.value <;> simp [hv, bytes16]

/-! ### SUBSCRIBE and UNSUBSCRIBE (R116) -/

/-- Either changes the mirror alone. -/
theorem State.setSubscribed_same (s : State) (o : Direct) (x : Byte) (on : Bool) (p : Part) (hp : p ≠ .mirror) :
    p.same s (s.setSubscribed o x on).1 :=
  State.onEntry_keeps (P := p.same s) (Part.same_refl s p) x _ fun _ _ => s.setEntry_same p _ _ hp

/-- Settles O22: both commands have one act, whose case the index and its entry decide. -/
theorem subscriptionsChangeSubscribers : Obligations.SubscriptionsChangeSubscribers := by
  intro o x s i on hi hh
  let act : State → State × Reply := fun u => u.setSubscribed o x on
  have hx : exec i s = .next (s.carryOut o act) := by
    rcases hi with ⟨rfl, rfl⟩ | ⟨rfl, rfl⟩ <;> exact command_hands s o _ act hh
  have hquiet : ∀ {status}, act s = (s, refuse status) →
      (s.carryOut o act).mirror = s.mirror ∧ (s.carryOut o act).answered o status [] := fun h =>
    ⟨by simp [State.carryOut, h], (State.carryOut_answers h).2⟩
  refine ⟨_, hx, fun p hport hp => s.carryOut_same o act p hport (s.setSubscribed_same o x on p hp), fun h => ?_,
    fun h he => ?_, fun e h he => ?_⟩
  · exact hquiet (State.onEntry_above _ h)
  · exact hquiet (State.onEntry_empty _ h he)
  · have hact : act s = (s.setEntry x.toNat (some { e with subs := e.subs.set o on }), .answer .ok []) :=
      State.onEntry_defined _ h he
    obtain ⟨hent, hother⟩ := State.entry_of_setEntry (e' := { e with subs := e.subs.set o on }) he
      ((State.carryOut_frame s o act).2.2.2.1.trans (by rw [hact]))
    exact ⟨hent, hother, s.answered_carryOut o act _ _ (congrArg Prod.snd hact)⟩

/-! ### REFRESH (R123) -/

section
variable {x : Byte} {e : Entry} (h : x.toNat ≤ 31) (he : s.entry x.toNat = some e)
include h he

theorem State.refresh_posted (hp : e.posted = true) : s.refresh x = (s, .answer .ok [1#8]) := by
  simp [State.refresh, State.onEntry_defined _ h he, hp]

/-- An entry without a poll posted tries a post, and answers with what the queue makes of it. -/
theorem State.refresh_unposted (hp : e.posted = false) : s.refresh x =
    (s.noPlace .p).elim (s.posted x.toNat e, .answer .ok [0#8]) fun status => (s, refuse status) := by
  simp only [State.refresh, State.onEntry_defined _ h he, hp, State.post]
  cases s.noPlace .p <;> rfl

end

/-- A REFRESH makes no record and no notice. -/
theorem State.refresh_records (s : State) (x : Byte) : (s.refresh x).1.records = s.records :=
  State.onEntry_keeps (P := fun u => u.records = s.records) rfl x _ fun e _ => by
    unfold State.post
    cases e.posted <;> cases s.noPlace .p <;> simp

/-- Settles O23: the index, its entry, the poll-posted mark and P's place decide the act, in that order. -/
theorem refreshPostsOnce : Obligations.RefreshPostsOnce := by
  intro o x s hh
  refine ⟨_, command_hands s o _ _ hh, (State.carryOut_frame s o _).2.2.2.2.2.trans (s.refresh_records x),
    fun h => State.carryOut_answers (State.onEntry_above _ h),
    fun h he => State.carryOut_answers (State.onEntry_empty _ h he), fun e h he => ⟨fun hp => ?_, fun hp => ?_⟩⟩
  · exact State.carryOut_answers (State.refresh_posted h he hp)
  · have hact := State.refresh_unposted h he hp
    refine ⟨fun hfull => ?_, fun hroom hquota => ?_, fun hroom hquota => ?_⟩
    · rw [State.noPlace_full hfull] at hact
      exact State.carryOut_answers hact
    · rw [State.noPlace_quota hroom hquota] at hact
      exact State.carryOut_answers hact
    · rw [s.noPlace_eq_none.2 ⟨hroom, hquota⟩, Option.elim_none] at hact
      let act : State → State × Reply := fun u => u.refresh x
      obtain ⟨-, -, hq, hm, hd, -⟩ := State.carryOut_frame s o act
      rw [show act s = _ from hact] at hq hm hd
      have hent := s.entry_posted x.toNat e he
      refine ⟨?_, fun j hj => ?_, ?_, s.answered_carryOut o act _ _ (congrArg Prod.snd hact), s.pollTicket x.toNat e,
        ?_, rfl, rfl, rfl, rfl, rfl, rfl, rfl, rfl⟩
      · rw [State.entry_congr hm, hent, if_pos rfl]
      · rw [State.entry_congr hm, hent, if_neg hj]
      · rw [State.isDue_congr hd, State.isDue_posted]
        simp
      · rw [State.queuedOf_congr hq, State.queuedOf_posted]

end Sys2Proof.Machine

/-! Poll results: DONE (R124, R125, R128), a failure (R126), and the results that are neither (R127). -/

namespace Sys2Proof.Machine

variable {s : State} {i : Nat} {e : Entry}

/-! ### Notices that go out on a condition -/

theorem State.recOf_notifyEach_ite (s : State) (c : Prop) [Decidable c] (m : PerDirect Bool) (q : Direct)
    (k : NoticeKind) (b : Subject) (v : List Byte) :
    (if c then s.notifyEach m k b v else s).recOf q =
      if m.get q = true ∧ c then (s.recOf q).arrive k b v s.time else s.recOf q := by
  by_cases hc : c <;> simp [hc, State.recOf_notifyEach]

theorem State.notifyEach_ite_frame (s : State) (c : Prop) [Decidable c] (m : PerDirect Bool) (k : NoticeKind)
    (b : Subject) (v : List Byte) :
    (if c then s.notifyEach m k b v else s).mirror = s.mirror ∧
      (if c then s.notifyEach m k b v else s).time = s.time := by
  split_ifs <;> simp

/-! ### A failure (R126), and what is neither (R127) -/

theorem State.pollResult_failed {r : Result} (he : s.entry i = some e)
    (hr : r = .noDevice ∨ r = .dataNack ∨ r = .stretchTimeout ∨ r = .transactionTimeout) (v : List Byte) :
    s.pollResult i r v = s.pollFailed i e := by
  rcases hr with rfl | rfl | rfl | rfl <;> simp [State.pollResult, he]

theorem State.pollResult_neutral {r : Result} (he : s.entry i = some e)
    (hr : r = .expired ∨ r = .arbLost ∨ r = .misplacedCondition) (v : List Byte) :
    s.pollResult i r v = s.pollNeutral i e := by
  rcases hr with rfl | rfl | rfl <;> simp [State.pollResult, he]

/-- The fail count has just reached 3 outside FAULT (R126). -/
theorem Entry.entersFault_iff (e : Entry) : e.entersFault = true ↔ 2 ≤ e.fails ∧ e.status ≠ .fault := by
  have h : min (e.fails + 1) 3 = 3 ↔ 2 ≤ e.fails := by omega
  simp [Entry.entersFault, Entry.failsUp, h]

theorem Entry.statusAfterFail_third (h : 2 ≤ e.fails) : e.statusAfterFail = .fault := by
  unfold Entry.statusAfterFail
  split_ifs with hf
  · rfl
  · rw [Entry.entersFault_iff] at hf
    tauto

theorem Entry.statusAfterFail_early (h : e.fails < 2) : e.statusAfterFail = e.status := by
  refine if_neg fun hf => ?_
  have := (e.entersFault_iff.1 hf).1
  omega

/-- A failure sets the entry and hands out one ENTRY_FAULT where it enters FAULT. -/
theorem State.pollFailed_effect (s : State) (i : Nat) (e : Entry) :
    (s.pollFailed i e).mirror = (s.setEntry i (some (e.afterFail (s.after e.waitAfterFail)))).mirror ∧
      ∀ q, (s.pollFailed i e).recOf q =
        if e.subs.get q = true ∧ 2 ≤ e.fails ∧ e.status ≠ .fault then
          (s.recOf q).arrive .entryFault (.entry i) [] s.time
        else s.recOf q := by
  refine ⟨(State.notifyEach_ite_frame _ _ _ _ _ _).1, fun q => ?_⟩
  rw [State.pollFailed, State.recOf_notifyEach_ite]
  simp [State.recOf, e.entersFault_iff]

/-- Settles O24: a failure is the entry after R126 with its one notice; any other result moves the due time alone. -/
theorem otherPollResultsReachEntry : Obligations.OtherPollResultsReachEntry := by
  refine ⟨fun s i e v r he hr => ?_, fun s i e v r he hr => ?_⟩
  · obtain ⟨hm, hrec⟩ := s.pollFailed_effect i e
    obtain ⟨hent, hother⟩ := State.entry_of_setEntry he hm
    rw [State.pollResult_failed he hr]
    refine ⟨_, hent, rfl, rfl, rfl, rfl, rfl, hother, Entry.statusAfterFail_third, Entry.statusAfterFail_early,
      fun h => ?_, fun h => ?_, hrec⟩
    · exact congrArg s.after (if_pos h)
    · exact congrArg s.after (if_neg h)
  · rw [State.pollResult_neutral he hr]
    obtain ⟨hent, hother⟩ := State.entry_of_setEntry (t := s.pollNeutral i e) he rfl
    exact ⟨hent, rfl, hother⟩

/-! ### DONE (R124, R125) -/

/-- The number of bytes with the first one most significant is the usual fold. -/
theorem numberLsbFirst_eq_foldl (v : List Byte) :
    numberLsbFirst v = v.reverse.foldl (fun n b => 256 * n + b.toNat) 0 := by
  induction v with
  | nil => rfl
  | cons b bs ih => simp [numberLsbFirst, ih, Nat.add_comm]

theorem Entry.numberOf_eq (e : Entry) (v : List Byte) : e.numberOf v =
    if e.msbFirst then v.foldl (fun n b => 256 * n + b.toNat) 0
      else v.reverse.foldl (fun n b => 256 * n + b.toNat) 0 := by
  simp [Entry.numberOf, numberLsbFirst_eq_foldl]

section
variable {v : List Byte}

theorem Entry.rangeOf_below (h : ∃ l, e.low = some l ∧ e.numberOf v < l) : e.rangeOf v = .below :=
  if_pos (by simpa [Option.any_eq_true] using h)

section
variable (hlow : ∀ l, e.low = some l → l ≤ e.numberOf v)
include hlow

theorem Entry.rangeOf_above (h : ∃ h, e.high = some h ∧ h < e.numberOf v) : e.rangeOf v = .above :=
  (if_neg (by simpa [Option.any_eq_true] using hlow)).trans (if_pos (by simpa [Option.any_eq_true] using h))

theorem Entry.rangeOf_inRange (hhigh : ∀ h, e.high = some h → e.numberOf v ≤ h) : e.rangeOf v = .inRange :=
  (if_neg (by simpa [Option.any_eq_true] using hlow)).trans (if_neg (by simpa [Option.any_eq_true] using hhigh))

end

theorem Entry.changedBy_iff (e : Entry) (v : List Byte) :
    e.changedBy v = true ↔ e.value = none ∨ e.status = .pendingFirst ∨ e.value ≠ some v := by
  simp [Entry.changedBy, or_assoc]

end

/-- A DONE result sets the entry and hands out its notices one behind the other (R128). -/
theorem State.pollDone_effect (s : State) (i : Nat) (e : Entry) (v : List Byte) :
    (s.pollDone i e v).mirror = (s.setEntry i (some (e.afterDone v (s.after (e.interval * 10))))).mirror ∧
      ∀ q, (s.pollDone i e v).recOf q =
        (let r1 := if e.subs.get q = true ∧ e.changedBy v = true then
            (s.recOf q).arrive .valueChanged (.entry i) v s.time else s.recOf q
         let r2 := if e.subs.get q = true ∧ e.status = .fault then
            r1.arrive .entryRecovered (.entry i) [] s.time else r1
         if e.subs.get q = true ∧ e.rangeOf v ≠ e.range then
            r2.arrive .limitCrossed (.entry i) [byteOf (e.rangeOf v).code] s.time else r2) := by
  unfold State.pollDone
  dsimp only
  refine ⟨?_, fun q => ?_⟩
  · simp only [State.notifyEach_ite_frame]
  · simp only [State.recOf_notifyEach_ite, State.notifyEach_ite_frame]
    simp [State.recOf]

/-- Settles O25: the entry is that of R124, its range that of R125, and each notice goes out on its own condition. -/
theorem donePollFreshensEntry : Obligations.DonePollFreshensEntry := by
  intro s i e v number he hn
  rw [← e.numberOf_eq v] at hn
  subst hn
  obtain ⟨hm, hrec⟩ := s.pollDone_effect i e v
  obtain ⟨hent, hother⟩ := State.entry_of_setEntry he hm
  have hx : s.pollResult i .done v = s.pollDone i e v := by simp [State.pollResult, he]
  rw [hx]
  refine ⟨_, hent, rfl, rfl, rfl, rfl, rfl, rfl, hother, Entry.rangeOf_below, Entry.rangeOf_above,
    Entry.rangeOf_inRange, fun q => ?_⟩
  simp only [hrec, e.changedBy_iff v]
  rfl

end Sys2Proof.Machine

/-! MIRROR DEFINE (R111 to R113): its refusals, a new definition, a redefinition. -/

namespace Sys2Proof.Machine

variable {s : State} {i : Nat}

/-! ### The checks of R111 -/

/-- The parameters of a MIRROR DEFINE as the command carries them. -/
def definitionOf (f a r w : Byte) (iv : BitVec 16) (low high : Field) : Definition :=
  ⟨f, a, r, w.toNat, iv.toNat, low, high⟩

/-- Check 5 of R111: a present limit does not fit the width, or both are present and out of order. -/
theorem limits_refused_iff (width l h : Nat) (hasLow hasHigh : Bool) :
    (!(limitFits width (if hasLow then some l else none) && limitFits width (if hasHigh then some h else none) &&
        limitsOrdered (if hasLow then some l else none) (if hasHigh then some h else none))) = true ↔
      ((hasLow ∧ 2 ^ (8 * width) ≤ l) ∨ (hasHigh ∧ 2 ^ (8 * width) ≤ h)) ∨ (hasLow ∧ hasHigh ∧ h < l) := by
  cases hasLow <;> cases hasHigh <;> simp [limitFits, limitsOrdered]

/-- Check 3 of R111. -/
theorem width_refused_iff (w : Byte) : (w ≠ 1#8 ∧ w ≠ 2#8 ∧ w ≠ 4#8) ↔
    (!(decide (w.toNat = 1) || decide (w.toNat = 2) || decide (w.toNat = 4))) = true := by
  simp only [ne_eq, Bool.not_eq_true', Bool.or_eq_false_iff, decide_eq_false_iff_not]
  bv_omega

/-- Checks 1 to 6 of R111 are the index and the fault of the parameters, in their order. -/
theorem defineRefusal_eq (x f a r w : Byte) (iv : BitVec 16) (low high : Field) :
    defineRefusal x f a w iv low high =
      if 31 < x.toNat ∧ x ≠ 0xFF#8 then some .badParam else (definitionOf f a r w iv low high).fault := by
  have haddr : a.toNat < 0x08 ∨ 0x77 < a.toNat ↔ (!usableAddress a) = true := by
    rw [Bool.not_eq_true', usableAddress_eq_false_iff]
  refine if_congr Iff.rfl rfl (if_congr Iff.rfl rfl (if_congr (width_refused_iff w) rfl (if_congr Iff.rfl rfl ?_)))
  rw [← ite_or]
  exact if_congr (limits_refused_iff w.toNat low.toNat high.toNat _ _).symm rfl (if_congr haddr rfl rfl)

section
variable {x f a r w : Byte} {iv : BitVec 16} {low high : Field}

theorem State.mirrorDefine_refused {status : Status} (h : defineRefusal x f a w iv low high = some status)
    (o : Direct) : s.mirrorDefine o x (definitionOf f a r w iv low high) = (s, refuse status) := by
  rw [defineRefusal_eq x f a r] at h
  unfold State.mirrorDefine
  by_cases hi : 31 < x.toNat ∧ x ≠ 0xFF#8
  · rw [if_pos hi] at h ⊢
    rw [← Option.some.inj h]
  · rw [if_neg hi] at h ⊢
    simp only [h]

section
variable (h : defineRefusal x f a w iv low high = none)
include h

/-- Past its parameters, a MIRROR DEFINE goes by the entry it names, or by the first EMPTY one (R111). -/
theorem State.mirrorDefine_checked (o : Direct) : s.mirrorDefine o x (definitionOf f a r w iv low high) =
    if x = 0xFF#8 then
      s.firstEmpty.elim (s, refuse .noRoom) fun j =>
        (s.defineNew o j (definitionOf f a r w iv low high), .answer .ok [byteOf j])
    else s.defineAt o x.toNat (definitionOf f a r w iv low high) := by
  rw [defineRefusal_eq x f a r] at h
  unfold State.mirrorDefine
  split_ifs at h with hi
  rw [if_neg hi, h]
  cases s.firstEmpty <;> rfl

theorem State.mirrorDefine_noRoom (hx : x = 0xFF#8) (hfull : ∀ e ∈ s.mirror, e ≠ none) (o : Direct) :
    s.mirrorDefine o x (definitionOf f a r w iv low high) = (s, refuse .noRoom) := by
  have hn : s.firstEmpty = none := List.findIdx?_eq_none_iff.2 fun e he => by
    simpa [Option.isSome_iff_ne_none] using hfull e he
  rw [State.mirrorDefine_checked h, if_pos hx, hn]
  rfl

theorem State.mirrorDefine_notOwner {old : Entry} {o : Direct} (hx : x ≠ 0xFF#8) (he : s.entry x.toNat = some old)
    (ho : old.owner ≠ o) : s.mirrorDefine o x (definitionOf f a r w iv low high) = (s, refuse .notOwner) := by
  rw [State.mirrorDefine_checked h, if_neg hx]
  simp [State.defineAt, he, ho]

theorem State.mirrorDefine_redefine {old : Entry} {o : Direct} (hx : x ≠ 0xFF#8) (he : s.entry x.toNat = some old)
    (ho : old.owner = o) : s.mirrorDefine o x (definitionOf f a r w iv low high) =
      (s.redefine o x.toNat (definitionOf f a r w iv low high) old, .answer .ok [byteOf x.toNat]) := by
  rw [State.mirrorDefine_checked h, if_neg hx]
  simp [State.defineAt, he, ho]

/-- An EMPTY entry, named or the first of them, is defined. -/
theorem State.mirrorDefine_new (hi : s.mirror[i]? = some none)
    (hx : x.toNat = i ∨ (x = 0xFF#8 ∧ ∀ j < i, s.mirror[j]? ≠ some none)) (hlen : s.mirror.length = 32) (o : Direct) :
    s.mirrorDefine o x (definitionOf f a r w iv low high) =
      (s.defineNew o i (definitionOf f a r w iv low high), .answer .ok [byteOf i]) := by
  obtain ⟨hlt, hget⟩ := List.getElem?_eq_some_iff.1 hi
  rw [State.mirrorDefine_checked h]
  rcases hx with rfl | ⟨rfl, hfirst⟩
  · have hne : x ≠ 0xFF#8 := by
      rintro rfl
      rw [hlen] at hlt
      exact absurd hlt (by decide)
    simp [if_neg hne, State.defineAt, State.entry, hi]
  · have hn : s.firstEmpty = some i := List.findIdx?_eq_some_iff_getElem.2
      ⟨hlt, by simp [hget], fun j hj => by
        have := hfirst j hj
        rw [List.getElem?_eq_getElem (hj.trans hlt)] at this
        simpa using this⟩
    rw [if_pos rfl, hn]
    rfl

end

end

/-- Settles O19: the first check of R111 that fails decides the act, which then changes nothing. -/
theorem mirrorDefineRefusals : Obligations.MirrorDefineRefusals := by
  intro o x f a r w iv low high s hh
  exact ⟨_, command_hands s o _ _ hh,
    fun _ h => State.carryOut_answers (State.mirrorDefine_refused h o),
    fun h => ⟨fun hx hfull => State.carryOut_answers (State.mirrorDefine_noRoom h hx hfull o),
      fun _ hx he ho => State.carryOut_answers (State.mirrorDefine_notOwner h hx he ho)⟩⟩

/-! ### A new definition (R112) -/

/-- The entry of a definition is as R112 sets it, whatever becomes of its due time. -/
theorem definitionOf_asDefined (o : Direct) (f a r w : Byte) (iv : BitVec 16) (low high : Field)
    (kept : PerDirect Bool) (now : Time) (b : Bool) :
    ({ ((definitionOf f a r w iv low high).entry o kept now).dueTaken with posted := b } : Entry).asDefined
      o f a r w iv low high :=
  ⟨rfl, rfl, rfl, rfl, rfl, rfl, rfl, rfl, rfl, rfl, rfl, rfl, rfl⟩

/-- Settles O17: the entry is set and falls due, and then it posts, or waits last, by P's place. -/
theorem mirrorDefineSetsEntry : Obligations.MirrorDefineSetsEntry := by
  intro o x f a r w iv low high s i hh h hlen hi hx
  let p := definitionOf f a r w iv low high
  let act : State → State × Reply := fun u => u.mirrorDefine o x p
  let u := s.setEntry i (some (p.entry o noneSubscribed s.time))
  have hact : act s = (u.fallsDue i, .answer .ok [byteOf i]) := State.mirrorDefine_new h hi hx hlen o
  have hent : u.entry i = some (p.entry o noneSubscribed s.time) :=
    State.entry_setEntry _ _ _ (List.getElem?_eq_some_iff.1 hi).1
  have hno : u.noPlace .p = s.noPlace .p := State.noPlace_congr (by simp [u]) (by simp [u]) _
  have hmarks : u.dueMarks = s.dueMarks := by simp [u]
  obtain ⟨-, -, hq, hm, hd, -⟩ := State.carryOut_frame s o act
  rw [hact] at hq hm hd
  obtain ⟨⟨b, hb, -⟩, hother⟩ := State.fallsDue_effect hent rfl
  refine ⟨_, _, command_hands s o _ act hh, s.answered_carryOut o act _ _ (congrArg Prod.snd hact),
    (State.entry_congr hm i).trans hb, definitionOf_asDefined o f a r w iv low high noneSubscribed s.time b,
    ((s.sameEntriesBut_setEntry i _).trans hother).trans (State.sameEntriesBut_of_mirror hm i), rfl,
    fun hnil hroom hquota => ?_, fun hdue hfull => ?_⟩
  · obtain ⟨hposted, hleft, hpolls⟩ := State.fallsDue_alone hent rfl (hmarks.trans hnil)
      (hno.trans (s.noPlace_eq_none.2 ⟨hroom, hquota⟩))
    have hbt : b = true := Option.some.inj (congrArg (Option.map Entry.posted) (hb.symm.trans hposted))
    refine ⟨hbt, hd.trans hleft, u.pollTicket i (p.entry o noneSubscribed s.time), ?_, rfl, rfl, rfl, rfl, rfl, rfl,
      rfl⟩
    rw [State.queuedOf_congr hq, hpolls]
    simp [u, State.queuedOf]
  · obtain ⟨hwaits, hlast, hkept⟩ := State.fallsDue_noPlace hent rfl ((State.isDue_congr hmarks i).trans hdue)
      (hno ▸ State.noPlace_ne_none.2 hfull)
    have hbf : b = false := Option.some.inj (congrArg (Option.map Entry.posted) (hb.symm.trans hwaits))
    exact ⟨hbf, by rw [hd, hlast, hmarks], by rw [hq, hkept]; simp [u]⟩

end Sys2Proof.Machine

/-! An entry's poll ticket is withdrawn (R19) and the entry replaced: a redefinition (R113) and MIRROR DROP (R114). -/

namespace Sys2Proof.Machine

variable {s : State} {i : Nat}

/-! ### The poll ticket is withdrawn (R19) -/

theorem State.withdrawPoll_frame (s : State) (i : Nat) : (s.withdrawPoll i).time = s.time ∧
    (s.withdrawPoll i).settings = s.settings ∧ (s.withdrawPoll i).mirror = s.mirror ∧
    (s.withdrawPoll i).dueMarks = s.dueMarks ∧ (s.withdrawPoll i).records = s.records := by
  unfold State.withdrawPoll
  split_ifs <;> simp

section
variable {k : Ticket} {pre post : List Ticket} (hl : s.queuedOf .p = pre ++ k :: post)
include hl

theorem State.pollQueued_split (hk : k.number = i) : s.pollQueued i = true := by
  simp [State.pollQueued, hl, hk]

/-- A QUEUED poll ticket is taken out of P's order. -/
theorem State.withdrawPoll_queued (hk : k.number = i) (hp : ∀ j ∈ pre, j.number ≠ i) :
    s.withdrawPoll i = s.setQueued .p (pre ++ post) := by
  rw [State.withdrawPoll, if_pos (State.pollQueued_split hl hk), State.dequeue, hl, without_split i pre post k hk hp]

/-- A ticket taken out of P's order leaves a place for P, where the queue and the quota were not passed. -/
theorem State.noPlace_removed (ht : s.queue.total ≤ 24) (hc : s.queue.counted .p ≤ s.settings.quota .p) :
    (s.setQueued .p (pre ++ post)).noPlace .p = none := by
  have hlen : (s.queue.queued.get .p).length = (pre ++ post).length + 1 := by
    rw [← State.queuedOf, hl]
    simp only [List.length_append, List.length_cons]
    omega
  have htotal : (s.setQueued .p (pre ++ post)).queue.total + (s.queue.queued.get .p).length =
      s.queue.total + (pre ++ post).length := s.queue.total_setQueued .p (pre ++ post)
  have hcounted : (s.setQueued .p (pre ++ post)).queue.counted .p + 1 = s.queue.counted .p := by
    simp only [State.setQueued, State.setQueue_fields, Queue.counted, Queue.activeCounted, Queue.waitingCount,
      PerOrigin.get_set, hlen]
    omega
  have hset : (s.setQueued .p (pre ++ post)).settings = s.settings := by simp
  exact (s.setQueued .p (pre ++ post)).noPlace_eq_none.2 ⟨by omega, by rw [hset]; omega⟩

end

section
variable (hq : ∀ k ∈ s.queuedOf .p, k.number ≠ i)
include hq

theorem State.pollQueued_eq_false : s.pollQueued i = false := by
  simpa [State.pollQueued] using hq

/-- An ACTIVE poll ticket is orphaned, not aborted. -/
theorem State.withdrawPoll_unqueued : s.withdrawPoll i = s.setQueue (s.queue.orphanPoll i) := by
  simp [State.withdrawPoll, State.pollQueued_eq_false hq]

end

theorem Queue.orphanPoll_active {q : Queue} {k : Ticket} (ha : q.active = some k) (ho : k.origin = .p)
    (hk : k.number = i) : (q.orphanPoll i).active = some { k with orphaned := true } := by
  simp [Queue.orphanPoll, ha, ho, hk]

theorem Queue.orphanPoll_other {q : Queue} (h : ∀ k, q.active = some k → k.origin = .p → k.number ≠ i) :
    q.orphanPoll i = q := by
  obtain ⟨queued, active, waiting, counter, current, credit⟩ := q
  cases active with
  | none => rfl
  | some k =>
    have hk : ¬(k.origin = .p ∧ k.number = i) := fun hx => h k rfl hx.1 hx.2
    simp [Queue.orphanPoll, hk]

/-- An orphan counts toward no quota (R7, R20). -/
theorem Queue.orphanPoll_counts (q : Queue) (i : Nat) :
    (q.orphanPoll i).total = q.total ∧ (q.orphanPoll i).counted .p ≤ q.counted .p := by
  cases ha : q.active with
  | none => simp [Queue.orphanPoll, Queue.total, Queue.activeCount, Queue.counted, Queue.activeCounted, ha,
      Queue.waitingCount]
  | some k =>
    refine ⟨by simp [Queue.orphanPoll, Queue.total, Queue.activeCount, ha], ?_⟩
    by_cases hk : k.origin = .p ∧ k.number = i
    · simp [Queue.orphanPoll, Queue.counted, Queue.activeCounted, Queue.waitingCount, ha, hk]
    · simp [Queue.orphanPoll, Queue.counted, Queue.activeCounted, Queue.waitingCount, ha, hk]

/-! ### The entry is replaced, and its due mark cleared (R113, R114) -/

theorem State.entry_replaced (hi : i < s.mirror.length) (x : Option Entry) :
    ((s.setEntry i x).clearDue i).entry i = x ∧ ((s.setEntry i x).clearDue i).isDue i = false ∧
      ((s.setEntry i x).clearDue i).sameEntriesBut s i ∧
      ((s.setEntry i x).clearDue i).dueMarks = s.dueMarks.filter (fun m => m.index ≠ i) := by
  refine ⟨?_, by simp [State.isDue_clearDue], ?_, by simp [State.clearDue]⟩
  · rw [State.entry_congr (s := s.setEntry i x) (by simp), State.entry_setEntry _ _ _ hi]
  · exact (s.sameEntriesBut_setEntry i x).trans (State.sameEntriesBut_of_mirror (by simp) i)

/-- A retry trigger after it leaves the entry as it is, where it is no more due. -/
theorem State.departed_ite_effect (s : State) (c : Prop) [Decidable c] (h : s.isDue i = false) :
    (if c then s.departed else s).entry i = s.entry i ∧ (if c then s.departed else s).isDue i = false ∧
      (if c then s.departed else s).sameEntriesBut s i ∧ (if c then s.departed else s).records = s.records := by
  split_ifs
  · obtain ⟨he, hd⟩ := State.retryPosts_idle h
    exact ⟨he, hd, (s.retryPosts_effect.2).but i, by simp⟩
  · exact ⟨rfl, h, fun _ _ => rfl, rfl⟩

theorem filter_eq_nil_of_index {l : List DueMark} (h : ∀ m ∈ l, m.index = i) :
    l.filter (fun m => m.index ≠ i) = [] := by
  rw [List.filter_eq_nil_iff]
  intro m hm
  simp [h m hm]

/-! ### A redefinition (R113) -/

theorem State.fallsDue_queue (s : State) (i : Nat) : ∃ posts, (s.fallsDue i).queue =
    { s.queue with queued := { s.queue.queued with p := s.queue.queued.p ++ posts } } := by
  obtain ⟨posts, hq⟩ := (s.takeDue i false).retryPosts_effect.1
  exact ⟨posts, by rw [State.fallsDue, hq]; simp⟩

section
variable {o : Direct} {p : Definition} {old : Entry}

theorem State.redefined_frame (s : State) (o : Direct) (i : Nat) (p : Definition) (old : Entry) :
    (s.redefined o i p old).time = s.time ∧ (s.redefined o i p old).settings = s.settings ∧
      (s.redefined o i p old).queue = (s.withdrawPoll i).queue ∧ (s.redefined o i p old).records = s.records := by
  simp [State.redefined, State.withdrawPoll_frame]

theorem State.redefine_records (s : State) (o : Direct) (i : Nat) (p : Definition) (old : Entry) :
    (s.redefine o i p old).records = s.records := by
  have h := (s.redefined_frame o i p old).2.2.2
  unfold State.redefine State.fallsDue
  dsimp only
  split_ifs <;> simp [h]

section
variable (he : s.entry i = some old)
include he

theorem State.redefined_effect :
    (s.redefined o i p old).entry i = some (p.entry o old.subs s.time) ∧ (s.redefined o i p old).isDue i = false ∧
      (s.redefined o i p old).sameEntriesBut s i ∧
      (s.redefined o i p old).dueMarks = s.dueMarks.filter (fun m => m.index ≠ i) := by
  obtain ⟨-, -, hm, hd, -⟩ := s.withdrawPoll_frame i
  obtain ⟨h1, h2, h3, h4⟩ := State.entry_replaced (s := s.withdrawPoll i) (i := i)
    (by rw [hm]; exact s.entry_lt i old he) (some (p.entry o old.subs s.time))
  exact ⟨h1, h2, (State.sameEntriesBut_of_mirror hm i).trans h3, h4.trans (by rw [hd])⟩

/-- The entry is the new one, posted or waiting; the others keep all but their poll-posted marks. -/
theorem State.redefine_effect :
    (∃ b, (s.redefine o i p old).entry i = some { (p.entry o old.subs s.time).dueTaken with posted := b } ∧
      (s.redefine o i p old).isDue i = !b) ∧ (s.redefine o i p old).sameEntriesBut s i := by
  obtain ⟨hent, hdue, hother, -⟩ := State.redefined_effect (o := o) (p := p) he
  obtain ⟨hent', -, hother', -⟩ := (s.redefined o i p old).departed_ite_effect (s.pollQueued i = true) hdue
  obtain ⟨hfall, hother''⟩ := State.fallsDue_effect (hent'.trans hent) rfl
  exact ⟨hfall, (hother.trans hother').trans hother''⟩

end

/-! A QUEUED poll ticket is removed, and its departure reported. -/

section
variable {k : Ticket} {pre post : List Ticket} (hl : s.queuedOf .p = pre ++ k :: post) (hk : k.number = i)
  (hp : ∀ j ∈ pre, j.number ≠ i)
include hl hk hp

theorem State.redefine_removed : (s.redefine o i p old).queue.active = s.queue.active ∧
    ∃ posts, (s.redefine o i p old).queuedOf .p = pre ++ post ++ posts := by
  have hx : s.redefine o i p old = (s.redefined o i p old).departed.fallsDue i := by
    simp [State.redefine, State.pollQueued_split hl hk]
  have hw : (s.redefined o i p old).queue = (s.setQueued .p (pre ++ post)).queue := by
    rw [(s.redefined_frame o i p old).2.2.1, State.withdrawPoll_queued hl hk hp]
  obtain ⟨posts, hq⟩ := (s.redefined o i p old).departed_effect.1
  obtain ⟨posts', hq'⟩ := (s.redefined o i p old).departed.fallsDue_queue i
  rw [hx]
  refine ⟨by rw [hq', hq, hw]; simp [State.setQueued], posts ++ posts', ?_⟩
  rw [State.queuedOf, hq', hq, hw]
  simp [State.setQueued, PerOrigin.get, PerOrigin.set]

theorem State.redefine_removed_alone (he : s.entry i = some old) (hd : ∀ m ∈ s.dueMarks, m.index = i)
    (ht : s.queue.total ≤ 24) (hc : s.queue.counted .p ≤ s.settings.quota .p) :
    (s.redefine o i p old).entry i = some { (p.entry o old.subs s.time).dueTaken with posted := true } ∧
      (s.redefine o i p old).queuedOf .p = pre ++ post ++ [s.pollTicket i (p.entry o old.subs s.time)] := by
  obtain ⟨hent, -, -, hmarks⟩ := State.redefined_effect (o := o) (p := p) he
  obtain ⟨htime, hset, hq, -⟩ := s.redefined_frame o i p old
  have hnil := hmarks.trans (filter_eq_nil_of_index hd)
  have hx : s.redefine o i p old = (s.redefined o i p old).fallsDue i := by
    simp [State.redefine, State.departed, State.retryPosts_nil hnil]
  have hw : (s.redefined o i p old).queue = (s.setQueued .p (pre ++ post)).queue := by
    rw [hq, State.withdrawPoll_queued hl hk hp]
  obtain ⟨h1, -, h3⟩ := State.fallsDue_alone hent rfl hnil
    ((State.noPlace_congr hw (hset.trans (by simp)) _).trans (State.noPlace_removed hl ht hc))
  rw [hx]
  refine ⟨h1, h3.trans ?_⟩
  rw [State.queuedOf_congr hw, State.queuedOf_setQueued, State.pollTicket_congr htime]

end

/-! No poll ticket is QUEUED; an ACTIVE one is orphaned. -/

section
variable (hq : ∀ k ∈ s.queuedOf .p, k.number ≠ i)
include hq

theorem State.redefine_unqueued : s.redefine o i p old = (s.redefined o i p old).fallsDue i ∧
    (s.redefined o i p old).queue = s.queue.orphanPoll i := by
  refine ⟨by simp [State.redefine, State.pollQueued_eq_false hq], ?_⟩
  rw [(s.redefined_frame o i p old).2.2.1, State.withdrawPoll_unqueued hq]
  simp

theorem State.redefine_orphaned {k : Ticket} (ha : s.queue.active = some k) (ho : k.origin = .p) (hk : k.number = i) :
    (s.redefine o i p old).queue.active = some { k with orphaned := true } := by
  obtain ⟨hx, hw⟩ := State.redefine_unqueued (o := o) (p := p) (old := old) hq
  obtain ⟨posts, hqueue⟩ := (s.redefined o i p old).fallsDue_queue i
  rw [hx, hqueue, hw]
  exact Queue.orphanPoll_active ha ho hk

section
variable (he : s.entry i = some old)
include he

theorem State.redefine_alone (hd : ∀ m ∈ s.dueMarks, m.index = i) (ht : s.queue.total < 24)
    (hc : s.queue.counted .p < s.settings.quota .p) :
    (s.redefine o i p old).entry i = some { (p.entry o old.subs s.time).dueTaken with posted := true } ∧
      (s.redefine o i p old).queuedOf .p = s.queuedOf .p ++ [s.pollTicket i (p.entry o old.subs s.time)] := by
  obtain ⟨hent, -, -, hmarks⟩ := State.redefined_effect (o := o) (p := p) he
  obtain ⟨htime, hset, -, -⟩ := s.redefined_frame o i p old
  obtain ⟨hx, hw⟩ := State.redefine_unqueued (o := o) (p := p) (old := old) hq
  obtain ⟨htotal, hcounted⟩ := s.queue.orphanPoll_counts i
  obtain ⟨h1, -, h3⟩ := State.fallsDue_alone hent rfl (hmarks.trans (filter_eq_nil_of_index hd))
    ((State.noPlace_eq_none _).2 (by rw [hw, hset, htotal]; omega))
  rw [hx]
  refine ⟨h1, h3.trans ?_⟩
  rw [State.queuedOf, hw, State.pollTicket_congr htime]
  rfl

theorem State.redefine_waits (ha : ∀ k, s.queue.active = some k → k.origin = .p → k.number ≠ i)
    (hn : s.noPlace .p ≠ none) :
    (s.redefine o i p old).entry i = some (p.entry o old.subs s.time).dueTaken ∧
      (s.redefine o i p old).dueMarks = s.dueMarks.filter (fun m => m.index ≠ i) ++ [⟨i, false⟩] ∧
      (s.redefine o i p old).queue = s.queue := by
  obtain ⟨hent, hdue, -, hmarks⟩ := State.redefined_effect (o := o) (p := p) he
  obtain ⟨-, hset, -, -⟩ := s.redefined_frame o i p old
  obtain ⟨hx, hw⟩ := State.redefine_unqueued (o := o) (p := p) (old := old) hq
  rw [Queue.orphanPoll_other ha] at hw
  obtain ⟨h1, h2, h3⟩ := State.fallsDue_noPlace hent rfl hdue (by rwa [State.noPlace_congr hw hset])
  rw [hx]
  exact ⟨h1, by rw [h2, hmarks], h3.trans hw⟩

end

end

end

/-- Settles O18: the entry is that of the new definition, posted or waiting, and P's order and the ACTIVE ticket go by
the place of the old poll ticket. -/
theorem mirrorRedefineKeepsSubscribers : Obligations.MirrorRedefineKeepsSubscribers := by
  intro o x f a r w iv low high s old hh h hx he ho
  let p := definitionOf f a r w iv low high
  let act : State → State × Reply := fun u => u.mirrorDefine o x p
  have hact : act s = (s.redefine o x.toNat p old, .answer .ok [byteOf x.toNat]) :=
    State.mirrorDefine_redefine h hx he ho
  have hans := s.answered_carryOut o act _ _ (congrArg Prod.snd hact)
  rw [show byteOf x.toNat = x by simp [byteOf]] at hans
  obtain ⟨-, -, hq, hm, hd, hrec⟩ := State.carryOut_frame s o act
  rw [hact] at hq hm hd hrec
  obtain ⟨⟨b, hb, hdue⟩, hother⟩ := State.redefine_effect (o := o) (p := p) he
  have hposted : ∀ {c}, (s.redefine o x.toNat p old).entry x.toNat =
      some { (p.entry o old.subs s.time).dueTaken with posted := c } → b = c := fun hc =>
    Option.some.inj (congrArg (Option.map Entry.posted) (hb.symm.trans hc))
  refine ⟨_, _, command_hands s o _ act hh, hans, (State.entry_congr hm _).trans hb,
    definitionOf_asDefined o f a r w iv low high old.subs s.time b,
    hother.trans (State.sameEntriesBut_of_mirror hm _), rfl, hrec.trans (s.redefine_records o _ p old),
    by rw [State.isDue_congr hd, hdue, Bool.not_not], fun k pre post hl hk hp => ?_, fun hn => ⟨?_, ?_, ?_⟩⟩
  · obtain ⟨hact', posts, hposts⟩ := State.redefine_removed (o := o) (p := p) (old := old) hl hk hp
    refine ⟨by rw [hq, hact'], ⟨posts, by rw [State.queuedOf_congr hq, hposts]⟩, fun hmarks ht hc => ?_⟩
    obtain ⟨h1, h2⟩ := State.redefine_removed_alone (o := o) (p := p) hl hk hp he hmarks ht hc
    exact ⟨hposted h1, by rw [State.queuedOf_congr hq, h2]; rfl⟩
  · intro k ha hko hkn
    rw [hq]
    exact State.redefine_orphaned hn ha hko hkn
  · intro hmarks ht hc
    obtain ⟨h1, h2⟩ := State.redefine_alone (o := o) (p := p) hn he hmarks ht hc
    exact ⟨hposted h1, by rw [State.queuedOf_congr hq, h2]; rfl⟩
  · intro ha hfull
    obtain ⟨h1, h2, h3⟩ := State.redefine_waits (o := o) (p := p) hn he ha (State.noPlace_ne_none.2 hfull)
    exact ⟨hposted h1, hd.trans h2, hq.trans h3⟩

/-! ### MIRROR DROP (R114) -/

/-- What a drop has done before a removed poll ticket's departure is reported. -/
def State.dropped (s : State) (i : Nat) (e : Entry) : State :=
  (((s.withdrawPoll i).notifyEach (e.subs.set e.owner false) .entryDropped (.entry i) []).setEntry i none).clearDue i

theorem State.dropEntry_eq (s : State) (i : Nat) (e : Entry) :
    s.dropEntry i e = if s.pollQueued i = true then (s.dropped i e).departed else s.dropped i e := rfl

theorem State.dropped_frame (s : State) (i : Nat) (e : Entry) : (s.dropped i e).time = s.time ∧
    (s.dropped i e).queue = (s.withdrawPoll i).queue ∧ (s.dropped i e).mirror = s.mirror.set i none ∧
    (s.dropped i e).dueMarks = s.dueMarks.filter (fun m => m.index ≠ i) := by
  simp [State.dropped, State.clearDue, State.withdrawPoll_frame]

/-- Each subscriber but the owner is told of the drop. -/
theorem State.recOf_dropEntry (s : State) (i : Nat) (e : Entry) (q : Direct) : (s.dropEntry i e).recOf q =
    if e.subs.get q = true ∧ q ≠ e.owner then (s.recOf q).arrive .entryDropped (.entry i) [] s.time
    else s.recOf q := by
  obtain ⟨htime, -, -, -, hrec⟩ := s.withdrawPoll_frame i
  have hd : (s.dropEntry i e).records =
      ((s.withdrawPoll i).notifyEach (e.subs.set e.owner false) .entryDropped (.entry i) []).records := by
    rw [State.dropEntry_eq]
    split_ifs <;> simp [State.dropped]
  rw [State.recOf_congr hd, State.recOf_notifyEach, State.recOf_congr hrec, htime, PerDirect.get_set_ite]
  by_cases hq : q = e.owner <;> simp [hq]

section
variable {e : Entry}

theorem State.dropEntry_effect (he : s.entry i = some e) : (s.dropEntry i e).entry i = none ∧
    (s.dropEntry i e).isDue i = false ∧ (s.dropEntry i e).sameEntriesBut s i := by
  let u := (s.withdrawPoll i).notifyEach (e.subs.set e.owner false) .entryDropped (.entry i) []
  have hm : u.mirror = s.mirror := by simp [u, State.withdrawPoll_frame]
  obtain ⟨hent, hdue, hother, -⟩ := State.entry_replaced (s := u) (i := i) (by rw [hm]; exact s.entry_lt i e he) none
  obtain ⟨hent', hdue', hother', -⟩ := (s.dropped i e).departed_ite_effect (s.pollQueued i = true) hdue
  exact ⟨hent'.trans hent, hdue', ((State.sameEntriesBut_of_mirror hm i).trans hother).trans hother'⟩

/-- A removed poll ticket's departure is a retry trigger (R26, R122). -/
theorem State.dropEntry_removed {k : Ticket} {pre post : List Ticket} (hl : s.queuedOf .p = pre ++ k :: post)
    (hk : k.number = i) (hp : ∀ j ∈ pre, j.number ≠ i) : (s.dropEntry i e).queue.active = s.queue.active ∧
      (((s.setQueued .p (pre ++ post)).setEntry i none).setDueMarks
        (s.dueMarks.filter fun m => m.index ≠ i)).retriedTo (s.dropEntry i e) := by
  obtain ⟨htime, hq, hm, hd⟩ := s.dropped_frame i e
  rw [State.withdrawPoll_queued hl hk hp] at hq
  rw [State.dropEntry_eq, if_pos (State.pollQueued_split hl hk)]
  obtain ⟨posts, hposts⟩ := (s.dropped i e).departed_effect.1
  refine ⟨by rw [hposts, hq]; simp, State.retriedTo_congr _ _ _ (by simp [hd]) (by simp [hm]) (by simp [htime]) ?_
    (s.dropped i e).retryPosts_retried⟩
  rw [State.queuedOf_congr hq]
  simp [State.queuedOf]

theorem State.dropEntry_unqueued (hn : ∀ k ∈ s.queuedOf .p, k.number ≠ i) :
    (s.dropEntry i e).queue = s.queue.orphanPoll i ∧
      (s.dropEntry i e).dueMarks = s.dueMarks.filter (fun m => m.index ≠ i) := by
  obtain ⟨-, hq, -, hd⟩ := s.dropped_frame i e
  have hx : s.dropEntry i e = s.dropped i e := by simp [State.dropEntry_eq, State.pollQueued_eq_false hn]
  rw [hx, hq, State.withdrawPoll_unqueued hn]
  exact ⟨by simp, hd⟩

end

/-- Settles O20: the index, its entry and its owner decide the act, and the place of the poll ticket what a drop does to
the queue. -/
theorem mirrorDropEmptiesEntry : Obligations.MirrorDropEmptiesEntry := by
  intro o x s hh
  refine ⟨_, command_hands s o _ _ hh, fun h => State.carryOut_answers (State.onEntry_above _ h),
    fun h he => State.carryOut_answers (State.onEntry_empty _ h he),
    fun e h he ho => State.carryOut_answers ((State.onEntry_defined _ h he).trans (if_neg ho)), fun e h he ho => ?_⟩
  let act : State → State × Reply := fun u => u.mirrorDrop o x
  have hact : act s = (s.dropEntry x.toNat e, .answer .ok []) := (State.onEntry_defined _ h he).trans (if_pos ho)
  obtain ⟨-, hset, hq, hm, hd, hrec⟩ := State.carryOut_frame s o act
  rw [hact] at hset hq hm hd hrec
  obtain ⟨hent, hdue, hother⟩ := State.dropEntry_effect he
  refine ⟨(State.entry_congr hm _).trans hent, (State.isDue_congr hd _).trans hdue,
    hother.trans (State.sameEntriesBut_of_mirror hm _), s.answered_carryOut o act _ _ (congrArg Prod.snd hact),
    fun q => ?_, fun k pre post hl hk hp => ?_, fun hn => ?_⟩
  · rw [State.recOf_congr hrec, State.recOf_dropEntry, ho]
  · obtain ⟨hactive, hretried⟩ := State.dropEntry_removed (e := e) hl hk hp
    exact ⟨by rw [hq, hactive], State.retriedTo_target hretried hq hm hd hset⟩
  · obtain ⟨hqueue, hmarks⟩ := State.dropEntry_unqueued (e := e) hn
    refine ⟨by rw [State.queuedOf, hq, hqueue]; rfl, hd.trans hmarks, fun k ha hko hkn => ?_⟩
    rw [hq, hqueue]
    exact Queue.orphanPoll_active ha hko hkn

end Sys2Proof.Machine

/-! Due times reached (R119, R122) and staleness (R130). -/

namespace Sys2Proof.Machine

variable {s u : State} {i : Nat}

/-! ### The due times of one change of the broker time (R119) -/

/-- An entry once the due times reached on one change of the broker time have been taken. -/
def Entry.dueTakenAt (due : Time) (e : Entry) : Entry :=
  if e.dueReached = true ∧ e.due = due then e.dueTaken else e

/-- An entry sets its due mark on that change: its due time is reached, no poll is posted, and no mark is set. -/
def State.marksAt (s : State) (due : Time) (j : Nat) : Bool :=
  (s.entry j).any (fun x => x.dueReached && decide (x.due = due) && !x.posted) && !s.isDue j

theorem State.marksAt_iff {due : Time} {j : Nat} : s.marksAt due j = true ↔
    (∃ e, s.entry j = some e ∧ (e.dueReached = true ∧ e.due = due) ∧ e.posted = false) ∧ s.isDue j = false := by
  simp [State.marksAt, Option.any_eq_true]

theorem State.takeDueOf_reached {due : Time} {e : Entry} (he : u.entry i = some e)
    (hr : e.dueReached = true ∧ e.due = due) : State.takeDueOf due u i = u.takeDue i (decide (due = u.time)) :=
  if_pos (by simp [he, hr])

theorem State.takeDueOf_unreached {due : Time}
    (h : ¬∃ e, u.entry i = some e ∧ e.dueReached = true ∧ e.due = due) : State.takeDueOf due u i = u := by
  refine if_neg ?_
  rw [Option.any_eq_true]
  rintro ⟨e, he, hr⟩
  exact h ⟨e, he, by simpa using hr⟩

theorem State.takeDueOf_clock (due : Time) (u : State) (i : Nat) :
    (State.takeDueOf due u i).time = u.time ∧ (State.takeDueOf due u i).settings = u.settings := by
  unfold State.takeDueOf
  split_ifs <;> simp

/-- The due time of one entry is taken, if it is reached on that change. -/
theorem State.entry_takeDueOf (u : State) (due : Time) (i j : Nat) : (State.takeDueOf due u i).entry j =
    if j = i then (u.entry j).map (Entry.dueTakenAt due) else u.entry j := by
  by_cases h : ∃ e, u.entry i = some e ∧ e.dueReached = true ∧ e.due = due
  · obtain ⟨e, he, hr⟩ := h
    rw [State.takeDueOf_reached he hr, State.entry_takeDue he]
    split_ifs with hj
    · subst hj
      simp [he, Entry.dueTakenAt, hr]
    · rfl
  · rw [State.takeDueOf_unreached h]
    split_ifs with hj
    · subst hj
      cases he : u.entry j with
      | none => rfl
      | some e => rw [Option.map_some, Entry.dueTakenAt, if_neg fun hr => h ⟨e, he, hr⟩]
    · rfl

/-- It sets the entry's due mark where the entry neither has a poll posted nor waits already (R119). -/
theorem State.dueMarks_takeDueOf (u : State) (due : Time) (i : Nat) : (State.takeDueOf due u i).dueMarks =
    if u.marksAt due i = true then insertMark ⟨i, decide (due = u.time)⟩ u.dueMarks else u.dueMarks := by
  by_cases h : ∃ e, u.entry i = some e ∧ e.dueReached = true ∧ e.due = due
  · obtain ⟨e, he, hr⟩ := h
    have hm : u.marksAt due i = (!e.posted && !u.isDue i) := by simp [State.marksAt, he, hr]
    have hd : (u.setEntry i (some e.dueTaken)).isDue i = u.isDue i := State.isDue_congr (by simp) i
    rw [State.takeDueOf_reached he hr, hm]
    cases hp : e.posted
    · rw [State.takeDue_unposted he hp]
      cases hw : u.isDue i
      · simp [State.markDue_unmarked (hd.trans hw)]
      · simp [State.markDue_marked (hd.trans hw)]
    · simp [State.takeDue_posted he hp]
  · have hm : ¬u.marksAt due i = true := fun hm => by
      obtain ⟨⟨e, he, hr, -⟩, -⟩ := State.marksAt_iff.1 hm
      exact h ⟨e, he, hr⟩
    rw [State.takeDueOf_unreached h, if_neg hm]

/-- The due marks that a change sets on the entries below an index, in index order (R122). -/
def State.newMarks (s : State) (due : Time) (n : Nat) : List DueMark :=
  ((List.range n).filter (s.marksAt due)).map fun j => ⟨j, decide (due = s.time)⟩

theorem State.newMarks_succ (s : State) (due : Time) (n : Nat) : s.newMarks due (n + 1) =
    s.newMarks due n ++ if s.marksAt due n = true then [⟨n, decide (due = s.time)⟩] else [] := by
  rw [State.newMarks, List.range_succ, List.filter_append, List.map_append, ← State.newMarks]
  by_cases h : s.marksAt due n = true <;> simp [h]

theorem State.index_lt_of_mem_newMarks {due : Time} {n : Nat} {m : DueMark} (h : m ∈ s.newMarks due n) :
    m.index < n := by
  obtain ⟨j, hj, rfl⟩ := List.mem_map.1 h
  exact List.mem_range.1 (List.mem_filter.1 hj).1

/-- The state once the due times of the entries below an index have been taken. -/
def State.dueTakenBelow (s : State) (due : Time) (n : Nat) : State := (List.range n).foldl (State.takeDueOf due) s

theorem State.dueTakenBelow_succ (s : State) (due : Time) (n : Nat) :
    s.dueTakenBelow due (n + 1) = State.takeDueOf due (s.dueTakenBelow due n) n := by
  simp [State.dueTakenBelow, List.range_succ]

/-- Taking the due times of a change in index order: each entry its own, and the marks set behind those that stood. -/
theorem State.dueTakenBelow_effect (s : State) (due : Time)
    (hf : (∀ m ∈ s.dueMarks, m.fresh = false) ∨ due ≠ s.time) (n : Nat) :
    (∀ j, (s.dueTakenBelow due n).entry j = if j < n then (s.entry j).map (Entry.dueTakenAt due) else s.entry j) ∧
      (s.dueTakenBelow due n).dueMarks = s.dueMarks ++ s.newMarks due n ∧
      (s.dueTakenBelow due n).time = s.time ∧ (s.dueTakenBelow due n).settings = s.settings ∧
      (s.dueTakenBelow due n).queue = s.queue := by
  induction n with
  | zero => simp [State.dueTakenBelow, State.newMarks]
  | succ n ih =>
    obtain ⟨hent, hmarks, htime, hset, hq⟩ := ih
    obtain ⟨hq', -⟩ := State.takeDueOf_frame due (s.dueTakenBelow due n) n
    obtain ⟨htime', hset'⟩ := State.takeDueOf_clock due (s.dueTakenBelow due n) n
    have hdue : (s.dueTakenBelow due n).isDue n = s.isDue n := by
      have hnew : ∀ m ∈ s.newMarks due n, m.index ≠ n := fun m hm => (State.index_lt_of_mem_newMarks hm).ne
      have hnone : (s.newMarks due n).any (·.index = n) = false :=
        List.any_eq_false.2 fun m hm => by simpa using hnew m hm
      rw [State.isDue, hmarks, List.any_append, hnone, Bool.or_false]
      rfl
    have hmark : (s.dueTakenBelow due n).marksAt due n = s.marksAt due n := by
      simp [State.marksAt, hent, hdue]
    rw [State.dueTakenBelow_succ]
    refine ⟨fun j => ?_, ?_, htime'.trans htime, hset'.trans hset, hq'.trans hq⟩
    · rw [State.entry_takeDueOf, hent]
      rcases Nat.lt_trichotomy j n with hj | rfl | hj
      · rw [if_neg hj.ne, if_pos hj, if_pos (by omega)]
      · simp
      · rw [if_neg hj.ne', if_neg (by omega), if_neg (by omega)]
    · rw [State.dueMarks_takeDueOf, hmark, hmarks, htime, s.newMarks_succ]
      split_ifs
      · rw [insertMark_eq_append, List.append_assoc]
        intro m hm hfresh hmf
        rcases List.mem_append.1 hm with hm | hm
        · rcases hf with hf | hf
          · simp [hf m hm] at hmf
          · exact absurd (of_decide_eq_true hfresh) hf
        · exact (State.index_lt_of_mem_newMarks hm).le
      · simp

/-! ### A due time reached by one entry alone -/

/-- Where the other entries have no due time reached, the one entry's mark is the only new one. -/
theorem State.newMarks_alone {due : Time} {n : Nat} (hi : i < n) (h : ∀ j, j ≠ i → s.marksAt due j = false) :
    s.newMarks due n = if s.marksAt due i = true then [⟨i, decide (due = s.time)⟩] else [] := by
  have hf : (List.range n).filter (s.marksAt due) = if s.marksAt due i = true then [i] else [] := by
    split_ifs with hm
    · have hp : s.marksAt due = fun j => decide (j = i) := by
        funext j
        by_cases hj : j = i
        · subst hj
          simp [hm]
        · simp [h j hj, hj]
      rw [hp, List.filter_eq, List.count_eq_one_of_mem List.nodup_range (List.mem_range.2 hi)]
      rfl
    · rw [List.filter_eq_nil_iff]
      intro j _
      by_cases hj : j = i
      · exact hj ▸ hm
      · simp [h j hj]
  rw [State.newMarks, hf]
  split_ifs <;> rfl

section
variable {e : Entry} (he : s.entry i = some e) (hr : e.dueReached = true) (hi : i < 32) (hd : s.dueMarks = [])
  (hother : ∀ j, j ≠ i → ∀ e', s.entry j = some e' → e'.dueReached = false)
include he hr hi hd hother

/-- The entry's due time is taken, and its mark is set where no poll is posted. -/
theorem State.dueTakenBelow_alone :
    (∀ j, (s.dueTakenBelow e.due 32).entry j = if j = i then some e.dueTaken else s.entry j) ∧
    (s.dueTakenBelow e.due 32).dueMarks = (if e.posted = true then [] else [⟨i, decide (e.due = s.time)⟩]) ∧
    (s.dueTakenBelow e.due 32).settings = s.settings ∧ (s.dueTakenBelow e.due 32).queue = s.queue ∧
    (s.dueTakenBelow e.due 32).time = s.time := by
  obtain ⟨hent, hmarks, htime, hset, hq⟩ := s.dueTakenBelow_effect e.due (.inl (by simp [hd])) 32
  refine ⟨fun j => ?_, ?_, hset, hq, htime⟩
  · rw [hent]
    by_cases hj : j = i
    · subst hj
      simp [hi, he, Entry.dueTakenAt, hr]
    · rw [if_neg hj]
      cases hx : s.entry j with
      | none => simp
      | some e' => simp [Entry.dueTakenAt, hother j hj e' hx]
  · have hm : s.marksAt e.due i = !e.posted := by simp [State.marksAt, he, hr, State.isDue_nil hd]
    rw [hmarks, hd, List.nil_append, State.newMarks_alone hi fun j hj => ?_, hm]
    · cases e.posted <;> rfl
    · cases hx : s.entry j with
      | none => simp [State.marksAt, hx]
      | some e' => simp [State.marksAt, hx, hother j hj e' hx]

end

/-! ### The events POLL_DUE and STALENESS -/

theorem exec_pollDue {e : Entry} (hr : s.resetting = none) (he : s.entry i = some e) (hd : e.dueReached = true) :
    exec (.pollDue i) s = .next (s.dueTakenBelow e.due 32).retryPosts.settle := by
  simp only [exec, execPollDue, he]
  exact event_next s _ _ hr hd

theorem exec_staleness {e : Entry} (hr : s.resetting = none) (he : s.entry i = some e) (hf : e.status = .fresh)
    (ha : e.staleLimit < e.age) :
    exec (.staleness i) s = .next (s.setEntry i (some { e with status := .stale })).settle := by
  simp only [exec, execStaleness, he]
  exact event_next s _ _ hr (by simp [Entry.goesStale, hf, ha])

theorem State.entry_mapMirror (s : State) (g : Entry → Entry) (j : Nat) :
    (s.setMirror (s.mirror.map (Option.map g))).entry j = (s.entry j).map g := by
  simp only [State.entry, State.setMirror_fields, List.getElem?_map]
  cases s.mirror[j]? <;> rfl

/-- A retry trigger is read from the entries one by one. -/
theorem State.retriedTo_of_entries {t : State} (he : ∀ j, t.entry j = s.entry j) (hd : t.dueMarks = s.dueMarks)
    (ht : t.time = s.time) (hq : t.queuedOf .p = s.queuedOf .p) (h : s.retriedTo u) : t.retriedTo u := by
  have hp : t.pollTicket = s.pollTicket := funext fun j => funext fun e => State.pollTicket_congr ht j e
  unfold State.retriedTo State.dueMarksWf at *
  simp only [State.pollTickets, hd, he, hq, hp] at h ⊢
  exact h

/-- Settles O53: the due times of one change are taken in index order, and what the retry trigger then posts goes by the
marks and by P's place. -/
theorem dueAndStaleEntries : Obligations.DueAndStaleEntries := by
  refine ⟨fun s i e hr hi he hdr hother hd => ?_, fun s i e hr hlen he hdr hf => ?_, fun s i e hr he hf ha => ?_⟩
  · obtain ⟨hent, hmarks, hset, hq, htime⟩ := State.dueTakenBelow_alone he hdr hi hd hother
    have hx := exec_pollDue hr he hdr
    generalize s.dueTakenBelow e.due 32 = u at *
    have hi' : u.entry i = some e.dueTaken := (hent i).trans (if_pos rfl)
    have hn : u.noPlace .p = s.noPlace .p := State.noPlace_congr hq hset _
    refine ⟨_, hx, ?_, fun hp => ?_, fun hp hroom hquota => ?_, fun hp hfull => ?_⟩
    · exact (State.sameEntriesBut_of_entry fun j hj => (hent j).trans (if_neg hj)).trans (u.retryPosts_effect.2.but i)
    · rw [if_pos hp] at hmarks
      rw [State.retryPosts_nil hmarks]
      exact ⟨hi', hq, hmarks⟩
    · rw [if_neg (by simp [hp])] at hmarks
      rw [State.retryPosts_single hmarks hi' (hn.trans (s.noPlace_eq_none.2 ⟨hroom, hquota⟩))]
      refine ⟨(u.entry_posted i _ hi' i).trans ?_, ?_, u.pollTicket i e.dueTaken, ?_, rfl, rfl, rfl⟩
      · simp [Entry.dueTaken]
      · simp [State.posted, State.clearDue, hmarks]
      · exact (State.queuedOf_posted i e.dueTaken).trans (by rw [State.queuedOf_congr hq])
    · rw [if_neg (by simp [hp])] at hmarks
      rw [State.retryPosts_noPlace (hn ▸ State.noPlace_ne_none.2 hfull)]
      exact ⟨hi', by simp [State.isDue, hmarks], hq⟩
  · obtain ⟨hent, hmarks, htime, -, hq⟩ := s.dueTakenBelow_effect e.due hf 32
    have hx := exec_pollDue hr he hdr
    generalize s.dueTakenBelow e.due 32 = u at *
    refine ⟨_, hx, State.retriedTo_of_entries (s := u) (fun j => ?_) hmarks.symm htime.symm
      (State.queuedOf_congr (by simp [hq]) _) u.retryPosts_retried⟩
    refine (s.entry_mapMirror (Entry.dueTakenAt e.due) j).trans ?_
    rw [hent]
    split_ifs with hj
    · rfl
    · have hnone : s.entry j = none := by
        simp [State.entry, List.getElem?_eq_none (by omega : s.mirror.length ≤ j)]
      simp [hnone]
  · obtain ⟨hent, hother⟩ := State.entry_of_setEntry he rfl
    exact ⟨_, exec_staleness hr he hf ha, hent, hother, rfl⟩

end Sys2Proof.Machine

/-! Request frames: the check byte closes a frame (R136), and the decoder's four checks in their order (R137). -/

namespace Sys2Proof.Machine

/-! ### The check byte (R136) -/

/-- A byte equal to the check register takes it to 0. -/
theorem crcByte_self (r : Byte) : crcByte r r = 0#8 := by
  rw [crcByte, BitVec.xor_self]
  decide

theorem checkByte_append (bytes : List Byte) (b : Byte) : checkByte (bytes ++ [b]) = crcByte (checkByte bytes) b := by
  simp [checkByte]

theorem checkByte_closeFrame (bytes : List Byte) : checkByte (closeFrame bytes) = 0#8 := by
  rw [closeFrame, checkByte_append, crcByte_self]

/-! ### Check 1: the length -/

/-- Check 1 of R137: the frame holds a length L of at most 36, L + 3 bytes, and from Ports A and B no more. -/
theorem lengthRight_iff (bytes : List Byte) (cut oversize exact : Bool) :
    lengthRight bytes cut oversize exact = true ↔ 3 ≤ bytes.length ∧ (bytes.getD 1 0#8).toNat ≤ 36 ∧
      (bytes.getD 1 0#8).toNat + 3 ≤ bytes.length ∧ cut = false ∧ oversize = false ∧
      (exact = true → bytes.length ≤ (bytes.getD 1 0#8).toNat + 3) := by
  match bytes with
  | [] | [_] | [_, _] => simp [lengthRight]
  | b :: l :: c :: rest =>
    simp only [lengthRight, Bool.and_eq_true, Bool.or_eq_true, Bool.not_eq_true', decide_eq_true_eq, and_assoc]
    cases exact <;> simp

theorem decodeFrame_of_length {bytes : List Byte} {cut oversize exact : Bool}
    (h : ¬ lengthRight bytes cut oversize exact = true) (o : Direct) :
    decodeFrame o bytes cut oversize exact = .refused .badLength := if_neg h

/-- A code, a length, that many parameters and one byte more pass the length check from every port. -/
theorem lengthRight_frame {code l : Byte} {params : List Byte} (hl : l.toNat = params.length) (h : params.length ≤ 36)
    (check : Byte) (exact : Bool) : lengthRight (code :: l :: params ++ [check]) false false exact = true := by
  rw [lengthRight_iff]
  simp [hl, h]

/-! ### Check 2: the check byte -/

/-- A frame of the right length is read by its check byte, and then by its code and its parameters. -/
theorem decodeFrame_frame {code l : Byte} {params : List Byte} (hl : l.toNat = params.length)
    (h : params.length ≤ 36) (o : Direct) (check : Byte) (exact : Bool) :
    decodeFrame o (code :: l :: params ++ [check]) false false exact =
      if checkByte (code :: l :: params) = check then commandOf o code params else .refused .badCheck := by
  have hr := lengthRight_frame (code := code) hl h check exact
  unfold decodeFrame
  rw [if_pos hr]
  simp [hl]

theorem byteOf_toNat {n : Nat} (h : n ≤ 36) : (byteOf n).toNat = n := by
  rw [byteOf, BitVec.toNat_ofNat]
  omega

/-- A frame closed with its check byte is read by its code and its parameters. -/
theorem decodeFrame_requestFrame {params : List Byte} (h : params.length ≤ 36) (o : Direct) (code : Byte)
    (exact : Bool) : decodeFrame o (requestFrame code params) false false exact = commandOf o code params :=
  (decodeFrame_frame (byteOf_toNat h) h o _ exact).trans (if_pos rfl)

/-! ### Checks 3 and 4: the code and the parameter length -/

/-- The codes of Table 7.1. -/
def requestCodes : List Nat :=
  [0x10, 0x11, 0x12, 0x13, 0x20, 0x21, 0x30, 0x31, 0x40, 0x41, 0x42, 0x43, 0x44, 0x45, 0x50, 0x51, 0x52, 0x53, 0x60]

/-- A parameter length that Table 7.2 does not allow with that code. -/
def wrongLength (code len : Nat) : Prop :=
  (code ∈ [0x10, 0x11] ∧ len < 4) ∨ (code ∈ [0x12, 0x13, 0x31, 0x41, 0x43, 0x44, 0x45, 0x50] ∧ len ≠ 1) ∨
    (code = 0x20 ∧ len ≠ 2) ∨ (code = 0x21 ∧ len ≠ 3) ∨ (code = 0x30 ∧ len ≠ 4) ∨ (code = 0x40 ∧ len ≠ 15) ∨
    (code = 0x42 ∧ (len < 1 ∨ 8 < len)) ∨ (code = 0x51 ∧ len ≠ 5) ∨ (code ∈ [0x52, 0x53, 0x60] ∧ len ≠ 0)

theorem code_of_wrongLength {code len : Nat} (h : wrongLength code len) : code ∈ requestCodes := by
  simp only [wrongLength, requestCodes, List.mem_cons, List.not_mem_nil, or_false] at h ⊢
  omega

theorem commandOf_unknown {code : Byte} (h : code.toNat ∉ requestCodes) (o : Direct) (params : List Byte) :
    commandOf o code params = .refused .unknownCommand := by
  unfold commandOf
  generalize code.toNat = n at h ⊢
  split
  case h_38 => rfl
  all_goals exact absurd (by decide) h

/-- The arms of the decoder's table that read a command have a length the code is given; the last arm has no code of
Table 7.1; the arms between refuse the length. -/
theorem commandOf_badLength {code : Byte} {params : List Byte} (h : wrongLength code.toNat params.length) (o : Direct) :
    commandOf o code params = .refused .badLength := by
  have hc := code_of_wrongLength h
  simp only [wrongLength, List.mem_cons, List.not_mem_nil, or_false] at h
  unfold commandOf
  generalize code.toNat = n at h hc ⊢
  split
  case h_11 =>
    rw [if_neg]
    simp only [Bool.and_eq_true, decide_eq_true_eq]
    omega
  case h_38 =>
    have hn : n ∉ requestCodes := by
      simp only [requestCodes, List.mem_cons, List.not_mem_nil, or_false, not_or]
      and_intros <;> assumption
    exact absurd hc hn
  case h_1 | h_2 | h_3 | h_4 | h_5 | h_6 | h_7 | h_8 | h_9 | h_10 | h_12 | h_13 | h_14 | h_15 | h_16 | h_17 | h_18
    | h_19 =>
    simp only [List.length_cons, List.length_nil] at h
    omega
  all_goals rfl

/-- Settles O7: the four checks, each where those before it pass. -/
theorem decoderChecksInOrder : Obligations.DecoderChecksInOrder := by
  refine ⟨fun o bytes cut oversize exact h => decodeFrame_of_length (fun hr => ?_) o,
    fun o code l params check exact hl hp hc => ?_, fun o code params exact hp h => ?_,
    fun o code params exact hp h => ?_⟩
  · obtain ⟨h3, h36, hlen, rfl, rfl, he⟩ := (lengthRight_iff ..).1 hr
    rcases h with h | h | h | h | h | ⟨hx, h⟩
    · omega
    · omega
    · omega
    · cases h
    · cases h
    · exact absurd (he hx) (by omega)
  · exact (decodeFrame_frame hl hp o check exact).trans (if_neg hc.symm)
  · exact (decodeFrame_requestFrame hp o code exact).trans (commandOf_unknown h o params)
  · exact (decodeFrame_requestFrame hp o code exact).trans (commandOf_badLength h o)

/-! ### Requests and their frames (R134, Table 11.1) -/

theorem word16_bytes16 (x : BitVec 16) : word16 (x.extractLsb' 0 8) (x.extractLsb' 8 8) = x :=
  BitVec.extractLsb'_append_extractLsb'

theorem word32_bytes32 (x : Field) : word32 (fieldByte x 0) (fieldByte x 1) (fieldByte x 2) (fieldByte x 3) = x := by
  have hhigh : fieldByte x 3 ++ fieldByte x 2 = x.extractLsb' 16 16 :=
    BitVec.extractLsb'_append_extractLsb'_eq_extractLsb' rfl
  have hlow : fieldByte x 1 ++ fieldByte x 0 = x.extractLsb' 0 16 :=
    BitVec.extractLsb'_append_extractLsb'_eq_extractLsb' rfl
  rw [word32, hhigh, hlow]
  exact BitVec.extractLsb'_append_extractLsb'

section
variable {i : Instr} {o : Direct} {code : Byte} {params : List Byte}

/-- The parameters of a well-formed request fit a frame. -/
theorem length_of_request (hw : i.wellFormed = true) (h : i.request = some (o, code, params)) : params.length ≤ 36 := by
  suffices hs : Laws.Frames.Statement i from hs hw o code params h
  cases i
  case submit => apply Laws.Frames.submit
  case transact => apply Laws.Frames.transact
  case cancel => apply Laws.Frames.cancel
  case ticketQuery => apply Laws.Frames.ticketQuery
  case collect => apply Laws.Frames.collect
  case notices => apply Laws.Frames.notices
  case lease => apply Laws.Frames.lease
  case release => apply Laws.Frames.release
  case mirrorDefine => apply Laws.Frames.mirrorDefine
  case mirrorDrop => apply Laws.Frames.mirrorDrop
  case mirrorRead => apply Laws.Frames.mirrorRead
  case subscribe => apply Laws.Frames.subscribe
  case unsubscribe => apply Laws.Frames.unsubscribe
  case refresh => apply Laws.Frames.refresh
  case settingRead => apply Laws.Frames.settingRead
  case settingWrite => apply Laws.Frames.settingWrite
  case status => apply Laws.Frames.status
  case originReset => apply Laws.Frames.originReset
  case busRecover => apply Laws.Frames.busRecover
  all_goals exact Laws.Frames.of_event _ rfl

/-- The decoder's table reads the code and the parameters of a well-formed request back as the request. -/
theorem commandOf_request (hw : i.wellFormed = true) (h : i.request = some (o, code, params)) :
    commandOf o code params = .command i := by
  cases i
  case submit | transact | cancel | ticketQuery | collect | notices | release | mirrorDrop | subscribe | unsubscribe
    | refresh | settingRead | status | originReset | busRecover =>
    cases h
    rfl
  case lease o a d f =>
    cases h
    exact congrArg (fun x => Decoded.command (.lease o a x f)) (word16_bytes16 d)
  case mirrorDefine o x f a r w t low high =>
    cases h
    change Decoded.command (.mirrorDefine o x f a r w (word16 (t.extractLsb' 0 8) (t.extractLsb' 8 8))
      (word32 (fieldByte low 0) (fieldByte low 1) (fieldByte low 2) (fieldByte low 3))
      (word32 (fieldByte high 0) (fieldByte high 1) (fieldByte high 2) (fieldByte high 3))) = _
    rw [word16_bytes16, word32_bytes32, word32_bytes32]
  case mirrorRead o xs =>
    cases h
    exact if_pos hw
  case settingWrite o n v =>
    cases h
    exact congrArg (fun x => Decoded.command (.settingWrite o n x)) (word32_bytes32 v)
  all_goals cases h

end

/-- Settles O6: a closed frame passes checks 1 and 2, and the table reads its code and parameters. -/
theorem requestFramesDecode : Obligations.RequestFramesDecode :=
  ⟨fun _ o code _ exact hw h => (decodeFrame_requestFrame (length_of_request hw h) o code exact).trans
    (commandOf_request hw h), checkByte_closeFrame⟩

end Sys2Proof.Machine

/-! A controller's command and its owner: the frame that is not shown (R139, log 2), and the answer that every command
taken is given (R139, R143). -/

namespace Sys2Proof.Machine

variable {s : State} {o : Direct} {i : Instr}

/-! ### Every request is a command of its owner (R139) -/

/-- What an owner may answer to a request: a status, or, to a TRANSACT alone, the ticket its port waits on (R143). -/
def answersTo (i : Instr) (r : Reply) : Prop :=
  (∃ status payload, r = .answer status payload) ∨
    (∃ o kf a q n data, i = .transact o kf a q n data) ∧ ∃ n, r = .onTicket n

theorem answersTo_answer (i : Instr) (status : Status) (payload : List Byte) : answersTo i (.answer status payload) :=
  .inl ⟨status, payload, rfl⟩

theorem answersTo_refuse (i : Instr) (status : Status) : answersTo i (refuse status) := .inl ⟨status, [], rfl⟩

theorem State.submit_answersTo (s : State) (o : Direct) (req : Except Status Request) :
    answersTo i (s.submit o req).2 := by
  unfold State.submit
  split
  · exact answersTo_refuse i _
  · exact answersTo_answer i _ _

theorem State.transact_answersTo (s : State) (o : Direct) (req : Except Status Request)
    (hi : ∃ o kf a q n data, i = .transact o kf a q n data) : answersTo i (s.transact o req).2 := by
  unfold State.transact
  split
  · exact answersTo_refuse i _
  · exact .inr ⟨hi, _, rfl⟩

theorem State.cancel_answersTo (s : State) (o : Direct) (n : Nat) : answersTo i (s.cancel o n).2 := by
  unfold State.cancel
  split
  · exact answersTo_refuse i _
  · split
    · exact answersTo_answer i _ _
    · split
      · exact answersTo_answer i _ _
      · split_ifs
        · exact answersTo_refuse i _
        · exact answersTo_refuse i _

theorem State.collect_answersTo (s : State) (o : Direct) (k n : Nat) : answersTo i (s.collect o k n).2 := by
  unfold State.collect
  split_ifs
  · exact answersTo_refuse i _
  · exact answersTo_answer i _ _

theorem State.fetchNotices_answersTo (s : State) (o : Direct) (k : Nat) (seen : Bool) (n : Nat) :
    answersTo i (s.fetchNotices o k seen n).2 := by
  unfold State.fetchNotices
  split_ifs
  · exact answersTo_refuse i _
  · exact answersTo_answer i _ _

theorem State.lease_answersTo (s : State) (o : Direct) (a : Byte) (d : Nat) (f : Byte) :
    answersTo i (s.lease o a d f).2 := by
  unfold State.lease
  dsimp only
  split
  · exact answersTo_refuse i _
  · split
    · exact answersTo_refuse i _
    · split
      · exact answersTo_refuse i _
      · split <;> split_ifs
        · exact answersTo_answer i _ _
        · exact answersTo_answer i _ _
        · exact answersTo_answer i _ _
        · exact answersTo_refuse i _

theorem State.release_answersTo (s : State) (o : Direct) (a : Byte) : answersTo i (s.release o a).2 := by
  unfold State.release
  split_ifs
  · exact answersTo_refuse i _
  · split
    · split_ifs
      · exact answersTo_answer i _ _
      · exact answersTo_refuse i _
    · exact answersTo_refuse i _

theorem State.defineAt_answersTo (s : State) (o : Direct) (x : Nat) (p : Definition) :
    answersTo i (s.defineAt o x p).2 := by
  unfold State.defineAt
  split
  · exact answersTo_answer i _ _
  · split_ifs
    · exact answersTo_answer i _ _
    · exact answersTo_refuse i _

theorem State.mirrorDefine_answersTo (s : State) (o : Direct) (x : Byte) (p : Definition) :
    answersTo i (s.mirrorDefine o x p).2 := by
  unfold State.mirrorDefine
  split_ifs
  · exact answersTo_refuse i _
  · split
    · exact answersTo_refuse i _
    · split
      · exact answersTo_answer i _ _
      · exact answersTo_refuse i _
  · split
    · exact answersTo_refuse i _
    · exact s.defineAt_answersTo o _ p

/-- An entry command answers what its own part answers, or refuses by its first checks. -/
theorem State.onEntry_answersTo (s : State) (x : Byte) (act : Entry → State × Reply)
    (h : ∀ e, answersTo i (act e).2) : answersTo i (s.onEntry x act).2 := by
  unfold State.onEntry
  split_ifs
  · exact answersTo_refuse i _
  · split
    · exact answersTo_refuse i _
    · exact h _

theorem State.mirrorDrop_answersTo (s : State) (o : Direct) (x : Byte) : answersTo i (s.mirrorDrop o x).2 :=
  s.onEntry_answersTo x _ fun e => by
    split_ifs
    · exact answersTo_answer i _ _
    · exact answersTo_refuse i _

theorem State.mirrorRead_answersTo (s : State) (xs : List Byte) : answersTo i (s.mirrorRead xs) := by
  unfold State.mirrorRead
  split_ifs
  · exact answersTo_refuse i _
  · exact answersTo_refuse i _
  · exact answersTo_answer i _ _

theorem State.setSubscribed_answersTo (s : State) (o : Direct) (x : Byte) (on : Bool) :
    answersTo i (s.setSubscribed o x on).2 :=
  s.onEntry_answersTo x _ fun _ => answersTo_answer i _ _

theorem State.refresh_answersTo (s : State) (x : Byte) : answersTo i (s.refresh x).2 :=
  s.onEntry_answersTo x _ fun e => by
    split_ifs
    · exact answersTo_answer i _ _
    · split
      · exact answersTo_refuse i _
      · exact answersTo_answer i _ _

theorem Settings.readReply_answersTo (x : Settings) (n : Nat) : answersTo i (x.readReply n) := by
  unfold Settings.readReply
  split
  · exact answersTo_answer i _ _
  · exact answersTo_refuse i _

theorem State.settingWrite_answersTo (s : State) (o : Direct) (n : Nat) (v : Field) :
    answersTo i (s.settingWrite o n v).2 := by
  unfold State.settingWrite
  split_ifs
  · exact answersTo_answer i _ _
  · exact answersTo_refuse i _

theorem State.busRecover_answersTo (s : State) : answersTo i s.busRecover.2 := by
  unfold State.busRecover
  split
  · split
    · exact answersTo_answer i _ _
    · exact answersTo_answer i _ _
    · exact answersTo_answer i _ _
    · exact answersTo_refuse i _
  case h_8 | h_9 => exact answersTo_answer i _ _
  all_goals exact answersTo_refuse i _

/-- A request runs as a command of its origin, whose owner answers it; only a TRANSACT may be left to its ticket. -/
theorem exec_request (h : i.request.map Prod.fst = some o) :
    ∃ act, exec i = command o i act ∧ ∀ u, answersTo i (act u).2 := by
  cases i
  case submit => cases h; exact ⟨_, rfl, fun u => u.submit_answersTo _ _⟩
  case transact => cases h; exact ⟨_, rfl, fun u => u.transact_answersTo _ _ ⟨_, _, _, _, _, _, rfl⟩⟩
  case cancel => cases h; exact ⟨_, rfl, fun u => u.cancel_answersTo _ _⟩
  case ticketQuery | status | originReset => cases h; exact ⟨_, rfl, fun _ => answersTo_answer _ _ _⟩
  case collect => cases h; exact ⟨_, rfl, fun u => u.collect_answersTo _ _ _⟩
  case notices => cases h; exact ⟨_, rfl, fun u => u.fetchNotices_answersTo _ _ _ _⟩
  case lease => cases h; exact ⟨_, rfl, fun u => u.lease_answersTo _ _ _ _⟩
  case release => cases h; exact ⟨_, rfl, fun u => u.release_answersTo _ _⟩
  case mirrorDefine => cases h; exact ⟨_, rfl, fun u => u.mirrorDefine_answersTo _ _ _⟩
  case mirrorDrop => cases h; exact ⟨_, rfl, fun u => u.mirrorDrop_answersTo _ _⟩
  case mirrorRead => cases h; exact ⟨_, rfl, fun u => u.mirrorRead_answersTo _⟩
  case subscribe | unsubscribe => cases h; exact ⟨_, rfl, fun u => u.setSubscribed_answersTo _ _ _⟩
  case refresh => cases h; exact ⟨_, rfl, fun u => u.refresh_answersTo _⟩
  case settingRead => cases h; exact ⟨_, rfl, fun u => u.settings.readReply_answersTo _⟩
  case settingWrite => cases h; exact ⟨_, rfl, fun u => u.settingWrite_answersTo _ _ _⟩
  case busRecover => cases h; exact ⟨_, rfl, fun u => u.busRecover_answersTo⟩
  all_goals cases h

/-! ### A frame that is not shown (log 2) -/

/-- A frame that is not shown leaves its command handed over. -/
theorem State.hands_withFrame (h : s.takesUnshown o = true) (i : Instr) : (s.withFrame o i).hands o i = true := by
  have hr : s.resetting.isNone = true := by
    simp only [State.takesUnshown, Bool.and_eq_true] at h
    exact h.1.1
  have hh : (s.withFrame o i).handedOf o = some i := by
    cases o <;> simp [State.withFrame, State.replaceSlot, State.handedOf, Tw.await, PortC.await]
  simp [State.hands, hr, hh]

/-- Where a port can have handed over a command whose frame is not shown, it has handed over none. -/
theorem State.hands_of_takesUnshown (h : s.takesUnshown o = true) (i : Instr) : s.hands o i = false := by
  have hn : s.handedOf o = none := by
    simp only [State.takesUnshown, Bool.and_eq_true, Option.isNone_iff_eq_none] at h
    exact h.1.2
  simp [State.hands, hn]

/-- Settles O4: both sides carry the command out behind its frame. -/
theorem unshownFrameStandsForFrame : Obligations.UnshownFrameStandsForFrame := by
  intro i s o hi h
  obtain ⟨act, hx, -⟩ := exec_request hi
  have hh := State.hands_withFrame h i
  refine ⟨?_, hh⟩
  calc exec i s = .next ((s.withFrame o i).carryOut o act) := by
        rw [hx]
        exact command_unshown s o i act (State.hands_of_takesUnshown h i) h
    _ = exec i (s.withFrame o i) := by
        rw [hx]
        exact (command_hands _ o i act hh).symm

/-! ### The answer ends the wait for it (R139, R143) -/

/-- An answer, or a wait on a ticket, leaves no command handed over. -/
theorem State.handedOf_reply (s : State) (o : Direct) (r : Reply) : (s.reply o r).handedOf o = none := by
  cases r <;> cases o
  case answer.a | answer.b =>
    simp only [State.reply, State.putReady, State.handedOf, Tw.makeReady, State.setTw_a_ports, State.setTw_b_ports]
    split <;> rfl
  all_goals rfl

theorem State.handedOf_settle (s : State) (o : Direct) : s.settle.handedOf o = s.handedOf o := by cases o <;> rfl

/-- Settles O5: the owner's answer reaches the port, at once or through the ticket of a TRANSACT. -/
theorem everyRequestIsAnswered : Obligations.EveryRequestIsAnswered := by
  intro i s o hi hh
  obtain ⟨act, hx, ha⟩ := exec_request hi
  refine ⟨s.carryOut o act, by rw [hx]; exact command_hands s o i act hh,
    (State.handedOf_settle _ o).trans (State.handedOf_reply _ o _), ?_⟩
  rcases ha s with ⟨status, payload, h⟩ | ⟨⟨o', kf, a, q, n, data, rfl⟩, number, h⟩
  · exact .inl ⟨status, payload, s.answered_carryOut o act _ _ h⟩
  · obtain rfl : o' = o := by cases hi; rfl
    have hslot : (s.carryOut o' act).slotOf o' = .onTicket number ((act s).1.settings.holdLimit o') := by
      rw [State.carryOut_onTicket (Prod.ext rfl h), State.slotOf_settle]
      exact (State.awaitTicket_port _ o' number).1
    exact .inr ⟨⟨kf, a, q, n, data, rfl⟩, number, _, hslot⟩

end Sys2Proof.Machine

/-! The ports: where an address byte leads (R148, R156 to R158), and a hold count that runs out (R158, R173). -/

namespace Sys2Proof.Machine

variable {s t : State}

/-! ### The address byte (R148) -/

theorem isRead_iff (b : Byte) : isRead b = true ↔ b.toNat % 2 = 1 := by
  rw [isRead, BitVec.getLsbD, Nat.testBit_zero, decide_eq_true_eq]

theorem Tw.takesAddress_of_target {p : Tw} (h : p.target = .idle ∨ p.target = .address ∨ p.target = .ignore ∨
    (p.target = .send ∧ p.slot = .empty)) : p.takesAddress = true := by
  rcases h with h | h | h | ⟨h, hs⟩ <;> simp [Tw.takesAddress, *]

theorem Tw.beginRead_slot (p : Tw) : p.beginRead.slot = p.slot := by
  unfold Tw.beginRead
  split <;> rfl

/-- No address byte changes what the slot holds. -/
theorem Tw.afterAddress_slot (p : Tw) (own : Nat) (b : Byte) : (p.afterAddress own b).slot = p.slot := by
  unfold Tw.afterAddress
  split_ifs
  · exact p.beginRead_slot
  · rfl
  · rfl

theorem Tw.afterAddress_other {own : Nat} {b : Byte} (h : b.toNat / 2 ≠ own) (p : Tw) :
    p.afterAddress own b = p.goTo .ignore := if_neg h

theorem Tw.afterAddress_write {own : Nat} {b : Byte} (h : b.toNat / 2 = own) (hw : b.toNat % 2 = 0) (p : Tw) :
    p.afterAddress own b = p.beginWrite := by
  have hr : ¬ isRead b = true := by rw [isRead_iff]; omega
  exact (if_pos h).trans (if_neg hr)

theorem Tw.afterAddress_read {own : Nat} {b : Byte} (h : b.toNat / 2 = own) (hr : b.toNat % 2 = 1) (p : Tw) :
    p.afterAddress own b = p.beginRead := (if_pos h).trans (if_pos ((isRead_iff b).2 hr))

/-! A read of the own address, by the slot (Table 8.4). -/

theorem Tw.beginRead_ready {p : Tw} {f : List Byte} (h : p.slot = .ready f) : p.beginRead = p.beginSend f := by
  simp only [Tw.beginRead, h]

theorem Tw.beginRead_empty {p : Tw} (h : p.slot = .empty) :
    p.beginRead = p.beginSend (responseFrame .noRequest []) := by
  simp only [Tw.beginRead, h]

theorem Tw.beginRead_waiting {p : Tw} (h : p.slot = .waiting) :
    p.beginRead = { p.goTo .hold with since := some 0 } := by
  simp only [Tw.beginRead, h]

theorem Tw.beginRead_onTicket {p : Tw} {n limit : Nat} (h : p.slot = .onTicket n limit) :
    p.beginRead = { p.goTo .hold with hold := some ⟨limit, 0⟩ } := by
  simp only [Tw.beginRead, h, startCount]

theorem Tw.beginRead_pos (p : Tw) : p.beginRead.pos = 0 := by
  unfold Tw.beginRead
  split <;> rfl

theorem Tw.sclDrive_hold {p : Tw} (h : p.target = .hold) : p.sclDrive = .low := if_pos h

theorem Tw.sclDrive_send {p : Tw} (h : p.target = .send) : p.sclDrive = .released := by simp [Tw.sclDrive, h]

theorem State.tw_settle (s : State) (port : TwPort) : s.settle.tw port = s.tw port := by cases port <;> rfl

theorem exec_upstreamAddressByte {port : TwPort} (hr : s.resetting = none) (ht : (s.tw port).takesAddress = true)
    (b : Byte) : exec (.upstreamAddressByte port b) s =
      .next (s.setTw port ((s.tw port).afterAddress (0x4C + s.adsel) b)).settle :=
  event_next s _ _ hr ht

/-- Settles O31: the port after the byte, by the address, the direction and the slot. -/
theorem addressByteChoosesTarget : Obligations.AddressByteChoosesTarget := by
  intro port b s hr ht
  refine ⟨_, exec_upstreamAddressByte hr (Tw.takesAddress_of_target ht) b, ?_⟩
  rw [State.tw_settle, State.setTw_tw]
  generalize s.tw port = p
  refine ⟨p.afterAddress_slot _ b, rfl, fun h => ?_, fun h => ⟨fun hw => ?_, fun hd => ?_⟩⟩
  · rw [Tw.afterAddress_other h]
    rfl
  · rw [Tw.afterAddress_write h hw]
    exact ⟨rfl, rfl, rfl⟩
  · rw [Tw.afterAddress_read h hd]
    refine ⟨p.beginRead_pos, fun f hs => ?_, fun hs => ?_, fun hs => ?_, fun n limit hs => ?_⟩
    · rw [Tw.beginRead_ready hs]
      exact ⟨rfl, rfl⟩
    · rw [Tw.beginRead_empty hs]
      exact ⟨rfl, rfl⟩
    · rw [Tw.beginRead_waiting hs]
      exact ⟨rfl, Tw.sclDrive_hold rfl, rfl⟩
    · rw [Tw.beginRead_onTicket hs]
      exact ⟨rfl, Tw.sclDrive_hold rfl, rfl⟩

/-! ### A hold count runs out (R158, R173) -/

theorem State.slotOf_portOrigin (s : State) (port : TwPort) : s.slotOf (portOrigin port) = (s.tw port).slot := by
  cases port <;> rfl

theorem exec_holdLimitExpiry {port : TwPort} {n limit : Nat} {c : Count} (hr : s.resetting = none)
    (hs : (s.tw port).slot = .onTicket n limit) (hh : (s.tw port).hold = some c) (hc : c.limit + 1 ≤ c.changes) :
    exec (.holdLimitExpiry port) s = .next (s.holdExpires (portOrigin port) n).settle := by
  simp only [exec, execHoldLimitExpiry, hs]
  exact event_next s _ _ hr (ranOut_of_le hh hc)

theorem exec_portCHoldExpiry {n limit : Nat} {c : Count} (hr : s.resetting = none)
    (hs : s.portC.slot = .onTicket n limit) (hh : s.portC.hold = some c) (hc : c.limit + 1 ≤ c.changes) :
    exec .portCHoldExpiry s = .next (s.holdExpires .c n).settle := by
  simp only [exec, execPortCHoldExpiry, hs]
  exact event_next s _ _ hr (ranOut_of_le hh hc)

/-- What a port's wait on a ticket leaves behind when its hold count runs out: PENDING is READY at the port, and the
ticket, QUEUED or ACTIVE, is no longer waited on. -/
theorem State.holdExpires_effect {o : Direct} {n limit : Nat} (hs : s.slotOf o = .onTicket n limit) :
    (s.holdExpires o n).settle.answered o .pending [byteOf n] ∧
      (s.holdExpires o n).settle.queuedOf (directOrigin o) = (s.queuedOf (directOrigin o)).map (fun k =>
        if k.number = n then { k with waited := false } else k) ∧
      ∀ k, s.queue.active = some k → k.origin = directOrigin o → k.number = n →
        (s.holdExpires o n).settle.queue.active = some { k with waited := false } := by
  have hstop : s.stopWaiting o = s.setQueue (s.queue.unwait o n) := by simp only [State.stopWaiting, hs]
  have hq : (s.holdExpires o n).settle.queue = s.queue.unwait o n := by simp [State.holdExpires, hstop]
  refine ⟨?_, ?_, fun k ha ho hk => ?_⟩
  · rw [State.answered, State.slotOf_settle]
    exact State.answered_putReady _ o _
  · rw [State.queuedOf, hq]
    exact PerOrigin.get_set ..
  · rw [hq]
    simp [Queue.unwait, Ticket.unwait, ha, ho, hk]

/-- The hold count of a port stops with its answer, and a read in HOLD goes on in SEND from byte 0 (R157). -/
theorem Tw.makeReady_effect (p : Tw) (f : List Byte) : (p.makeReady f).hold = none ∧
    (p.target = .hold → (p.makeReady f).target = .send ∧ (p.makeReady f).pos = 0) := by
  unfold Tw.makeReady
  split_ifs with h
  · exact ⟨rfl, fun _ => ⟨rfl, rfl⟩⟩
  · exact ⟨rfl, fun h' => absurd h' h⟩

theorem State.tw_stopWaiting (s : State) (o : Direct) (port : TwPort) : (s.stopWaiting o).tw port = s.tw port := by
  cases port <;> simp

theorem State.tw_holdExpires (s : State) (port : TwPort) (n : Nat) :
    (s.holdExpires (portOrigin port) n).settle.tw port = (s.tw port).makeReady (responseFrame .pending [byteOf n]) := by
  have h : (s.holdExpires (portOrigin port) n).tw port =
      ((s.stopWaiting (portOrigin port)).tw port).makeReady (responseFrame .pending [byteOf n]) := by
    cases port <;> rfl
  rw [State.tw_settle, h, State.tw_stopWaiting]

/-- A command that a frame's decoding leaves handed over at Port C has its time counted from there (R143, R173). -/
theorem State.since_of_decoded {d : Decoded} {i : Instr} (h : (s.decoded .c d).portC.handed = some i) :
    (s.decoded .c d).portC.since = some 0 := by
  cases d with
  | refused status => cases h
  | command i => rfl

theorem State.since_of_endBlock {bytes : List Byte} {i : Instr} (hn : s.portC.handed = none)
    (h : (s.endBlock bytes).portC.handed = some i) : (s.endBlock bytes).portC.since = some 0 := by
  unfold State.endBlock State.takeRequest at h ⊢
  dsimp only at h ⊢
  split at h
  · simp [PortC.between, PortC.took, hn] at h
  · split_ifs at h ⊢
    · simp [PortC.between, PortC.took, hn] at h
    · exact State.since_of_decoded h

/-- Settles O35: at each port the expiry ends the wait; at Port C the count is measured from the end of the block. -/
theorem holdLimitMakesPending : Obligations.HoldLimitMakesPending := by
  refine ⟨fun port n limit c s hr hs hh hc => ?_, fun n limit c s hr hs hh hc => ?_,
    fun bytes bits i s t hn hx hi => ?_⟩
  · obtain ⟨hans, hq, ha⟩ := State.holdExpires_effect ((s.slotOf_portOrigin port).trans hs)
    refine ⟨_, exec_holdLimitExpiry hr hs hh hc, hans, ?_, fun ht => ?_, hq, ha⟩ <;> rw [State.tw_holdExpires]
    · exact (Tw.makeReady_effect _ _).1
    · obtain ⟨hsend, hpos⟩ := (Tw.makeReady_effect _ _).2 ht
      exact ⟨hsend, hpos, Tw.sclDrive_send hsend⟩
  · obtain ⟨hans, hq, ha⟩ := State.holdExpires_effect (o := .c) hs
    exact ⟨_, exec_portCHoldExpiry hr hs hh hc, hans, rfl, hq, ha⟩
  · rcases event_cases s _ (s.endBlock bytes) with ⟨-, -, he⟩ | he <;> cases he.symm.trans hx
    · exact State.since_of_endBlock hn hi
    · cases hn.symm.trans hi

end Sys2Proof.Machine

/-! The frame of every command, part by part: what each operation reaches, and each command by its operations. -/

namespace Sys2Proof.Machine

variable {s t u : State} {p : Part}

/-! ### Agreement in a part, put together -/

theorem Part.same.trans (h1 : p.same s t) (h2 : p.same t u) : p.same s u := Part.same_trans s t u p h1 h2

/-- A part off the D-bus block agrees where its fields do. -/
theorem Part.same_of_fields (hb : p.isBus = false)
    (h : t.resetting = s.resetting ∧ t.cause = s.cause ∧ t.adsel = s.adsel ∧ t.time = s.time ∧
      t.settings = s.settings ∧ t.leases = s.leases ∧ t.mirror = s.mirror ∧ t.dueMarks = s.dueMarks ∧
      t.portA = s.portA ∧ t.portB = s.portB ∧ t.portC = s.portC)
    (hq : p = .queue → t.queue = s.queue) (hr : p.isRecords = true → t.records = s.records) : p.same s t := by
  obtain ⟨hreset, hcause, hadsel, htime, hset, hlease, hmirror, hmarks, ha, hbp, hc⟩ := h
  cases p with
  | reset => exact ⟨hreset, hcause, hadsel⟩
  | time => exact htime
  | settings => exact hset
  | queue => exact hq rfl
  | engine | monitor => cases hb
  | leases => exact hlease
  | mirror => exact hmirror
  | dueMarks => exact hmarks
  | records o => exact State.recOf_congr (hr rfl) o
  | port q => cases q <;> assumption
  | portC => exact hc

/-- An operation on the D-bus block alone. -/
theorem Part.same_of_bus (hb : p.isBus = false)
    (h : t.resetting = s.resetting ∧ t.cause = s.cause ∧ t.adsel = s.adsel ∧ t.time = s.time ∧
      t.settings = s.settings ∧ t.leases = s.leases ∧ t.mirror = s.mirror ∧ t.dueMarks = s.dueMarks ∧
      t.portA = s.portA ∧ t.portB = s.portB ∧ t.portC = s.portC ∧ t.queue = s.queue ∧ t.records = s.records) :
    p.same s t := by
  obtain ⟨hreset, hcause, hadsel, htime, hset, hlease, hmirror, hmarks, ha, hbp, hc, hq, hr⟩ := h
  exact Part.same_of_fields hb ⟨hreset, hcause, hadsel, htime, hset, hlease, hmirror, hmarks, ha, hbp, hc⟩
    (fun _ => hq) (fun _ => hr)

theorem State.setSettings_same (s : State) (x : Settings) (h : p ≠ .settings) : p.same s (s.setSettings x) := by
  cases p <;> simp_all [Part.same, State.recOf]
  rename_i q; cases q <;> simp_all

theorem State.setMirror_same (s : State) (m : List (Option Entry)) (h : p ≠ .mirror) : p.same s (s.setMirror m) := by
  cases p <;> simp_all [Part.same, State.recOf]
  rename_i q; cases q <;> simp_all

theorem State.setDueMarks_same (s : State) (l : List DueMark) (h : p ≠ .dueMarks) : p.same s (s.setDueMarks l) := by
  cases p <;> simp_all [Part.same, State.recOf]
  rename_i q; cases q <;> simp_all

theorem State.clearDue_same (s : State) (i : Nat) (h : p ≠ .dueMarks) : p.same s (s.clearDue i) :=
  s.setDueMarks_same _ h

theorem Part.ne_records (h : p.isRecords = false) (o : Direct) : p ≠ .records o := by
  rintro rfl
  cases h

theorem Part.ne_queue (h : p.endingReaches = false) : p ≠ .queue := by
  rintro rfl
  cases h

/-! ### The queue's commands -/

theorem State.submit_same (s : State) (o : Direct) (req : Except Status Request) (hq : p ≠ .queue) :
    p.same s (s.submit o req).1 := by
  rcases s.submit_cases o req with h | ⟨r, -, h⟩ <;> rw [h]
  · exact Part.same_refl s p
  · exact s.admitTicket_same p o r _ hq

theorem State.transact_same (s : State) (o : Direct) (req : Except Status Request) (hq : p ≠ .queue) :
    p.same s (s.transact o req).1 := by
  rcases s.transact_cases o req with h | ⟨r, -, h⟩ <;> rw [h]
  · exact Part.same_refl s p
  · exact s.admitTicket_same p o r _ hq

theorem State.lease_same (s : State) (o : Direct) (a : Byte) (d : Nat) (f : Byte) (h : p ≠ .leases) :
    p.same s (s.lease o a d f).1 := by
  obtain ⟨l, hl⟩ := s.lease_fst o a d f
  rw [hl]
  exact s.setLeases_same p l h

theorem State.release_same (s : State) (o : Direct) (a : Byte) (h : p ≠ .leases) : p.same s (s.release o a).1 := by
  obtain ⟨l, hl⟩ := s.release_fst o a
  rw [hl]
  exact s.setLeases_same p l h

theorem State.fetchNotices_same (s : State) (o : Direct) (k : Nat) (seen : Bool) (n : Nat) (h : p ≠ .records o) :
    p.same s (s.fetchNotices o k seen n).1 := by
  unfold State.fetchNotices
  split_ifs
  · exact Part.same_refl s p
  · exact s.setRec_same p o _ h

/-! ### What a departure reaches: the queue, the mirror, the due marks (R26, R122) -/

section
variable (hq : p ≠ .queue) (hm : p ≠ .mirror) (hd : p ≠ .dueMarks)
include hq hm hd

theorem State.departed_same (s : State) : p.same s s.departed := s.retryPosts_same p hq hm hd

theorem State.departed_ite_same (s : State) (c : Prop) [Decidable c] : p.same s (if c then s.departed else s) := by
  split_ifs
  · exact s.departed_same hq hm hd
  · exact Part.same_refl s p

theorem State.cancel_same (s : State) (o : Direct) (n : Nat) (hr : p ≠ .records o) (hp : p ≠ portPart o) :
    p.same s (s.cancel o n).1 := by
  rcases s.cancel_cases o n with ⟨k, -, h⟩ | ⟨k, -, h⟩ | h <;> rw [h]
  · exact (s.dequeue_same p _ _ hq).trans
      (State.finish_direct_same _ p o _ _ _ (originDirect_directOrigin o) hq hm hd hr hp)
  · exact s.setQueue_same p _ hq
  · exact Part.same_refl s p

theorem State.acknowledge_same (s : State) (o : Direct) (k : Nat) (hr : p ≠ .records o) :
    p.same s (s.acknowledge o k) := by
  have h1 : p.same s (s.refilled o k) := (s.setRec_same p o _ hr).trans (State.setWaiting_same _ p o _ hq)
  rw [State.acknowledge_eq]
  split_ifs
  · exact h1
  · exact h1.trans ((s.refilled o k).departed_same hq hm hd)

theorem State.collect_same (s : State) (o : Direct) (k n : Nat) (hr : p ≠ .records o) :
    p.same s (s.collect o k n).1 := by
  unfold State.collect
  split_ifs
  · exact Part.same_refl s p
  · exact (s.acknowledge_same hq hm hd o k hr).trans (State.setRec_same _ p o _ hr)

theorem State.fallsDue_same (s : State) (i : Nat) : p.same s (s.fallsDue i) :=
  (s.takeDue_same p i false hm hd).trans (State.retryPosts_same _ p hq hm hd)

theorem State.defineNew_same (s : State) (o : Direct) (i : Nat) (x : Definition) : p.same s (s.defineNew o i x) :=
  (s.setEntry_same p i _ hm).trans (State.fallsDue_same hq hm hd _ i)

omit hm hd in
theorem State.withdrawPoll_same (s : State) (i : Nat) : p.same s (s.withdrawPoll i) := by
  unfold State.withdrawPoll
  split_ifs
  · exact s.dequeue_same p _ _ hq
  · exact s.setQueue_same p _ hq

theorem State.redefine_same (s : State) (o : Direct) (i : Nat) (x : Definition) (old : Entry) :
    p.same s (s.redefine o i x old) := by
  have h1 : p.same s (s.redefined o i x old) :=
    ((s.withdrawPoll_same hq i).trans (State.setEntry_same _ p i _ hm)).trans (State.clearDue_same _ i hd)
  exact (h1.trans (State.departed_ite_same hq hm hd _ _)).trans (State.fallsDue_same hq hm hd _ i)

theorem State.defineAt_same (s : State) (o : Direct) (i : Nat) (x : Definition) : p.same s (s.defineAt o i x).1 := by
  unfold State.defineAt
  split
  · exact s.defineNew_same hq hm hd o i x
  · split_ifs
    · exact s.redefine_same hq hm hd o i x _
    · exact Part.same_refl s p

theorem State.mirrorDefine_same (s : State) (o : Direct) (index : Byte) (x : Definition) :
    p.same s (s.mirrorDefine o index x).1 := by
  unfold State.mirrorDefine
  split_ifs
  · exact Part.same_refl s p
  · split
    · exact Part.same_refl s p
    · split
      · exact s.defineNew_same hq hm hd o _ x
      · exact Part.same_refl s p
  · split
    · exact Part.same_refl s p
    · exact s.defineAt_same hq hm hd o _ x

theorem State.refresh_same (s : State) (x : Byte) : p.same s (s.refresh x).1 :=
  State.onEntry_keeps (P := p.same s) (Part.same_refl s p) x _ fun e _ => by
    unfold State.post
    split_ifs
    · exact Part.same_refl s p
    · cases s.noPlace .p
      · exact s.posted_same p _ _ hq hm hd
      · exact Part.same_refl s p

theorem State.dropEntry_same (s : State) (i : Nat) (e : Entry) (hr : p.isRecords = false) :
    p.same s (s.dropEntry i e) := by
  have h1 : p.same s (s.dropped i e) :=
    (((s.withdrawPoll_same hq i).trans (State.notifyEach_same _ p _ _ _ _ hr)).trans
      (State.setEntry_same _ p i _ hm)).trans (State.clearDue_same _ i hd)
  rw [State.dropEntry_eq]
  exact h1.trans (State.departed_ite_same hq hm hd _ _)

theorem State.mirrorDrop_same (s : State) (o : Direct) (x : Byte) (hr : p.isRecords = false) :
    p.same s (s.mirrorDrop o x).1 :=
  State.onEntry_keeps (P := p.same s) (Part.same_refl s p) x _ fun e _ => by
    split_ifs
    · exact s.dropEntry_same hq hm hd _ e hr
    · exact Part.same_refl s p

theorem State.queueReset_same (s : State) (o : Direct) : p.same s (s.queueReset o) :=
  (s.setQueue_same p _ hq).trans (State.departed_ite_same hq hm hd _ _)

theorem State.mirrorReset_same (s : State) (o : Direct) (hr : p.isRecords = false) : p.same s (s.mirrorReset o) := by
  refine foldl_keeps (P := p.same s) _ _ (fun u i hu => ?_) _ (s.setMirror_same _ hm)
  unfold State.dropOwned
  split
  · split_ifs
    · exact hu.trans (u.dropEntry_same hq hm hd i _ hr)
    · exact hu
  · exact hu

theorem State.originReset_same (s : State) (o : Direct) (hl : p ≠ .leases) (hr : p.isRecords = false) :
    p.same s (s.originReset o) :=
  (((s.queueReset_same hq hm hd o).trans (State.setLeases_same _ p _ hl)).trans
    (State.mirrorReset_same hq hm hd _ o hr)).trans (State.setRec_same _ p o _ (Part.ne_records hr o))

theorem State.allFallDue_same (s : State) (due : Time) : p.same s (s.allFallDue due) := by
  refine Part.same.trans (foldl_keeps (P := p.same s) _ _ (fun u i hu => ?_) _ (Part.same_refl s p))
    (State.retryPosts_same _ p hq hm hd)
  unfold State.takeDueOf
  split_ifs
  · exact hu.trans (u.takeDue_same p i _ hm hd)
  · exact hu

end

/-! ### The engine and the monitor -/

section
variable (hb : p.isBus = false)
include hb

theorem State.enterPhase_same (s : State) (st : EngineState) (bit : Option Nat) (f : Option Result) (k : Ticket)
    (hq : p ≠ .queue) : p.same s (s.enterPhase st bit f k) :=
  Part.same_of_fields hb (by simp) (fun h => absurd h hq) (fun _ => by simp)

theorem State.same_of_goesOn {k : Ticket} (h : s.goesOn u k) (hq : p ≠ .queue) : p.same s u := by
  obtain ⟨st, bit, f, rfl⟩ := h
  exact s.enterPhase_same hb st bit f k hq

theorem State.startTicket_same (s : State) (c : Choice) (hq : p ≠ .queue) : p.same s (s.startTicket c) :=
  Part.same_of_fields hb (by simp [State.startTicket, State.takeChoice]) (fun h => absurd h hq)
    (fun _ => by simp [State.startTicket, State.takeChoice])

theorem State.enterRecovery_same (s : State) (scl sda : Bool) : p.same s (s.enterRecovery scl sda) :=
  Part.same_of_bus hb (by simp)

theorem State.busRecover_same (s : State) : p.same s s.busRecover.1 := by
  unfold State.busRecover
  split
  case h_1 =>
    split
    case h_3 => exact Part.same_of_bus hb (by simp [State.stopHeld, State.attemptRecovery])
    all_goals exact Part.same_refl s p
  case h_9 => exact s.enterRecovery_same hb _ _
  all_goals exact Part.same_refl s p

theorem State.heldDataExpires_same (s : State) : p.same s s.heldDataExpires := by
  have h1 : p.same s s.stopHeld := Part.same_of_bus hb (by simp [State.stopHeld])
  unfold State.heldDataExpires
  split_ifs
  · exact h1.trans (State.enterRecovery_same hb _ _ _)
  · exact h1

theorem State.seeFall_same (s : State) (line : BusLine) : p.same s (s.seeFall line) := by
  cases line <;> exact Part.same_of_bus hb (by simp [State.seeFall])

theorem State.lineFalls_same (s : State) : p.same s s.lineFalls :=
  Part.same_of_bus hb (by simp)

theorem State.sclFalls_same (s : State) : p.same s s.sclFalls := by
  unfold State.sclFalls
  split <;> exact Part.same_of_bus hb (by simp [State.clockFell])

theorem State.lineChanges_same (s : State) (line : BusLine) (level : Bool) : p.same s (s.lineChanges line level) := by
  cases line <;> cases level
  case scl.false => exact s.sclFalls_same hb
  all_goals exact Part.same_of_bus hb (by simp [State.lineChanges])

theorem State.condSeen_same (s : State) (c : Cond) : p.same s (s.condSeen c) :=
  Part.same_of_bus hb (by simp)

/-! The notices of the bus go to records (R67, R69). -/

theorem State.becomeFree_same (s : State) (hr : p.isRecords = false) : p.same s s.becomeFree :=
  Part.same_of_fields hb (by simp) (fun _ => by simp) (fun h => by simp [hr] at h)

theorem State.enterStuck_same (s : State) (hr : p.isRecords = false) : p.same s s.enterStuck :=
  Part.same_of_fields hb (by simp) (fun _ => by simp) (fun h => by simp [hr] at h)

theorem State.completeRecovery_same (s : State) (hr : p.isRecords = false) : p.same s s.completeRecovery :=
  Part.same_of_fields hb (by simp [State.completeRecovery]) (fun _ => by simp [State.completeRecovery])
    (fun h => by simp [hr] at h)

theorem State.seeReleased_same (s : State) : p.same s s.seeReleased := by
  unfold State.seeReleased
  split_ifs
  · exact Part.same_of_bus hb (by simp)
  · exact Part.same_refl s p

theorem State.recoveryPulse_same (s : State) (sda : Bool) (hr : p.isRecords = false) :
    p.same s ((s.pulseSampled sda).afterPulse sda) := by
  have h1 : p.same s (s.pulseSampled sda) := Part.same_of_bus hb (by simp [State.pulseSampled, State.countPulse])
  refine h1.trans ?_
  unfold State.afterPulse
  split_ifs
  · exact Part.same_of_bus hb (by simp)
  · exact Part.same_of_bus hb (by simp)
  · exact State.enterStuck_same hb _ hr

/-! A ticket that leaves the bus. -/

section
variable (he : p.endingReaches = false)
include he

omit hb in
theorem State.endActive_same (s : State) (k : Ticket) (r : Result) : p.same s (s.endActive k r) :=
  (s.setQueue_same p _ (Part.ne_queue he)).trans (State.finish_same _ p _ _ _ he)

theorem State.completeStop_same (s : State) (k : Ticket) (r : Result) : p.same s (s.completeStop k r) :=
  Part.same.trans (t := s.stopped) (Part.same_of_bus hb (by simp [State.stopped, State.ownStop]))
    (State.endActive_same he _ k r)

omit hb in
theorem State.lost_same (s : State) (k : Ticket) : p.same s (s.lost k) := by
  unfold State.lost
  split_ifs
  case neg => exact s.setQueue_same p _ (Part.ne_queue he)
  all_goals exact s.finish_same p _ _ _ he

theorem State.loseArbitration_same (s : State) (k : Ticket) (cut : Sampled) :
    p.same s (s.loseArbitration k cut) := by
  have h1 : p.same s s.backedOff := Part.same_of_fields hb (by simp [State.backedOff, State.giveBack])
    (fun h => absurd h (Part.ne_queue he)) (fun _ => by simp [State.backedOff, State.giveBack])
  exact h1.trans (s.backedOff.lost_same he _)

theorem State.misplaced_same (s : State) (c : Cond) (cut : Sampled) (k : Ticket) : p.same s (s.misplaced c cut k) := by
  have h1 : p.same s (s.displaced c) := Part.same_of_bus hb (by simp [State.displaced])
  exact h1.trans (State.endActive_same he _ _ _)

theorem State.timeOut_same (s : State) (k : Ticket) (cut : Sampled) (r : Result) (scl sda : Bool) :
    p.same s (s.timeOut k cut r scl sda) :=
  (s.endActive_same he _ r).trans (State.enterRecovery_same hb _ scl sda)

theorem State.foreignCondition_same (s : State) (c : Cond) : p.same s (s.foreignCondition c) := by
  unfold State.foreignCondition
  split
  · exact s.misplaced_same hb he c _ _
  · exact s.condSeen_same hb c

end
end

/-- A write of a setting reaches the settings, and by what it changes the records, the mirror and the bus. -/
theorem State.settingWrite_same (s : State) (o : Direct) (n : Nat) (v : Field) (hq : p ≠ .queue) (hs : p ≠ .settings)
    (hm : p ≠ .mirror) (hd : p ≠ .dueMarks) (hr : p.isRecords = false) (hb : p.isBus = false) :
    p.same s (s.settingWrite o n v).1 := by
  have htell : ∀ (u : State) (c : Bool), p.same u (u.tellSetting o n c) := fun u c => by
    cases c
    · exact Part.same_refl u p
    · exact u.notifyEach_same p _ _ _ _ hr
  have hquota : ∀ (u : State) (x : Settings), p.same u (u.quotaWritten n x) := fun u x => by
    unfold State.quotaWritten
    split_ifs
    · exact u.retryPosts_same p hq hm hd
    · exact Part.same_refl u p
  have hidle : ∀ (u : State) (x : Settings), p.same u (u.idleDetectWritten n x) := fun u x => by
    unfold State.idleDetectWritten
    split_ifs
    · exact u.becomeFree_same hb hr
    · exact Part.same_refl u p
  unfold State.settingWrite
  split_ifs
  · exact (((s.setSettings_same _ hs).trans (htell _ _)).trans (hquota _ _)).trans (hidle _ _)
  · exact Part.same_refl s p

theorem State.expireLease_same (s : State) (l : Lease) (hl : p ≠ .leases) (hq : p ≠ .queue) (hr : p.isRecords = false) :
    p.same s (s.expireLease l) :=
  ((s.setLeases_same p _ hl).trans (State.setQueue_same _ p _ hq)).trans
    (State.setRec_same _ p _ _ (Part.ne_records hr _))

/-! ### The ports -/

theorem portPart_portOrigin (port : TwPort) : portPart (portOrigin port) = .port port := by cases port <;> rfl

theorem State.decoded_same (s : State) (o : Direct) (d : Decoded) (hq : p ≠ .queue) (hp : p ≠ portPart o) :
    p.same s (s.decoded o d) := by
  cases d with
  | refused status => exact (s.replaceSlot_same p o _ hq hp).trans (State.putReady_same _ p o _ hp)
  | command i => exact s.replaceSlot_same p o _ hq hp

theorem State.endWrite_same (s : State) (port : TwPort) (bytes : List Byte) (c : Cond) (hp : p ≠ .port port)
    (hq : p ≠ .queue) : p.same s (s.endWrite port bytes c) := by
  unfold State.endWrite
  dsimp only
  split_ifs
  · exact s.setTw_same p port _ hp
  · exact (s.setTw_same p port _ hp).trans (State.decoded_same _ _ _ hq (portPart_portOrigin port ▸ hp))

theorem State.holdExpires_same (s : State) (o : Direct) (n : Nat) (hp : p ≠ portPart o) (hq : p ≠ .queue) :
    p.same s (s.holdExpires o n) := by
  refine Part.same.trans ?_ (State.putReady_same _ p o _ hp)
  unfold State.stopWaiting
  split
  · exact s.setQueue_same p _ hq
  · exact Part.same_refl s p

theorem State.endBlock_same (s : State) (bytes : List Byte) (hp : p ≠ .portC) (hq : p ≠ .queue) :
    p.same s (s.endBlock bytes) := by
  have h1 := s.setPortC_same p (s.portC.took bytes).between hp
  unfold State.endBlock State.takeRequest
  dsimp only
  split
  · exact h1
  · split_ifs
    · exact h1.trans (State.setPortC_same _ p _ hp)
    · exact h1.trans (State.decoded_same _ .c _ hq hp)

/-! ### Every command -/

theorem event_refused_same (h : event false s s = .next t) : p.same s t := event_same s t p _ _ (Part.same_refl s p) h

/-- A change of the broker time reaches no setting, no record and nothing of a broker reset. -/
theorem State.tick_same (s : State) (h : mayChange .brokerTimeTick p = false) : p.same s s.tick := by
  cases p with
  | reset => exact ⟨rfl, rfl, rfl⟩
  | settings => rfl
  | records o => rfl
  | port q => cases q <;> cases h
  | _ => cases h

theorem exec_same (i : Instr) (hf : mayChange i p = false) (h : exec i s = .next t) : p.same s t := by
  cases i
  case brokerTimeTick => exact event_same s t p _ _ (s.tick_same hf) h
  all_goals simp only [mayChange, Bool.or_eq_false_iff, decide_eq_false_iff_not, and_assoc] at hf
  case submit =>
    obtain ⟨hq, hp⟩ := hf
    exact command_same s t p _ _ _ hq hp (fun u => u.submit_same _ _ hq) h
  case transact =>
    obtain ⟨hq, hp⟩ := hf
    exact command_same s t p _ _ _ hq hp (fun u => u.transact_same _ _ hq) h
  case cancel =>
    obtain ⟨hq, hp, hr, hm, hd⟩ := hf
    exact command_same s t p _ _ _ hq hp (fun u => u.cancel_same hq hm hd _ _ hr hp) h
  case ticketQuery | mirrorRead | settingRead | status =>
    obtain ⟨hq, hp⟩ := hf
    exact command_same s t p _ _ _ hq hp (fun u => Part.same_refl u p) h
  case collect =>
    obtain ⟨hq, hp, hr, hm, hd⟩ := hf
    exact command_same s t p _ _ _ hq hp (fun u => u.collect_same hq hm hd _ _ _ hr) h
  case notices =>
    obtain ⟨hq, hp, hr⟩ := hf
    exact command_same s t p _ _ _ hq hp (fun u => u.fetchNotices_same _ _ _ _ hr) h
  case lease =>
    obtain ⟨hq, hp, hl⟩ := hf
    exact command_same s t p _ _ _ hq hp (fun u => u.lease_same _ _ _ _ hl) h
  case release =>
    obtain ⟨hq, hp, hl⟩ := hf
    exact command_same s t p _ _ _ hq hp (fun u => u.release_same _ _ hl) h
  case mirrorDefine =>
    obtain ⟨hq, hp, hm, hd⟩ := hf
    exact command_same s t p _ _ _ hq hp (fun u => u.mirrorDefine_same hq hm hd _ _ _) h
  case mirrorDrop =>
    obtain ⟨hq, hp, hm, hd, hr⟩ := hf
    exact command_same s t p _ _ _ hq hp (fun u => u.mirrorDrop_same hq hm hd _ _ hr) h
  case subscribe | unsubscribe =>
    obtain ⟨hq, hp, hm⟩ := hf
    exact command_same s t p _ _ _ hq hp (fun u => u.setSubscribed_same _ _ _ p hm) h
  case refresh =>
    obtain ⟨hq, hp, hm, hd⟩ := hf
    exact command_same s t p _ _ _ hq hp (fun u => u.refresh_same hq hm hd _) h
  case settingWrite =>
    obtain ⟨hq, hp, hs, hm, hd, hr, hb⟩ := hf
    exact command_same s t p _ _ _ hq hp (fun u => u.settingWrite_same _ _ _ hq hs hm hd hr hb) h
  case originReset o =>
    obtain ⟨hq, hp, hl, hm, hd, hr⟩ := hf
    exact command_same s t p o _ (fun u => (u.originReset o, .answer .ok [])) hq hp
      (fun u => u.originReset_same hq hm hd o hl hr) h
  case busRecover =>
    obtain ⟨hq, hp, hb, -⟩ := hf
    exact command_same s t p _ _ _ hq hp (fun u => u.busRecover_same hb) h
  case upstreamAddressByte | writeTransferAbort | responseReadComplete | readEndedEarly | noRequest | upstreamStop =>
    exact event_same s t p _ _ (s.setTw_same p _ _ hf) h
  case writeTransferEnd => exact event_same s t p _ _ (s.endWrite_same _ _ _ hf.1 hf.2) h
  case blockStart => exact event_same s t p _ _ (s.setPortC_same p _ hf) h
  case blockEnd => exact event_same s t p _ _ (s.endBlock_same _ hf.1 hf.2) h
  case holdLimitExpiry port =>
    simp only [exec, execHoldLimitExpiry] at h
    split at h
    · exact event_same s t p _ _ (s.holdExpires_same _ _ (portPart_portOrigin port ▸ hf.1) hf.2) h
    all_goals exact event_refused_same h
  case portCHoldExpiry =>
    simp only [exec, execPortCHoldExpiry] at h
    split at h
    · exact event_same s t p _ _ (s.holdExpires_same .c _ hf.1 hf.2) h
    all_goals exact event_refused_same h
  case ticketStart =>
    simp only [exec, execTicketStart] at h
    split at h
    · exact event_same s t p _ _ (s.startTicket_same hf.2 _ hf.1) h
    · exact event_refused_same h
  case addressByteEnd =>
    simp only [exec, execAddressByteEnd] at h
    split at h
    · exact event_same s t p _ _ (State.same_of_goesOn hf.2 (s.afterAddress_goesOn _ _) hf.1) h
    · exact event_refused_same h
  case writeByteEnd =>
    simp only [exec, execWriteByteEnd] at h
    split at h
    · exact event_same s t p _ _ (State.same_of_goesOn hf.2 (s.afterWriteByte_goesOn _ _) hf.1) h
    · exact event_refused_same h
  case restartEnd =>
    simp only [exec, execRestartEnd] at h
    split at h
    · exact event_same s t p _ _ (State.same_of_goesOn hf.2 (s.afterRestart_goesOn _ _) hf.1) h
    · exact event_refused_same h
  case readByteEnd =>
    simp only [exec, execReadByteEnd] at h
    split at h
    · exact event_same s t p _ _ (State.same_of_goesOn hf.2 (s.afterReadByte_goesOn _) hf.1) h
    · exact event_refused_same h
  case stopComplete =>
    simp only [exec, execStopComplete] at h
    split at h
    · exact event_same s t p _ _ (s.completeStop_same hf.1 hf.2 _ _) h
    · exact event_refused_same h
  case arbitrationLost =>
    simp only [exec, execArbitrationLost] at h
    split at h
    · exact event_same s t p _ _ (s.loseArbitration_same hf.1 hf.2 _ _) h
    · exact event_refused_same h
  case misplacedCondition =>
    simp only [exec, execMisplacedCondition] at h
    split at h
    · exact event_same s t p _ _ (s.misplaced_same hf.1 hf.2 _ _ _) h
    · exact event_refused_same h
  case stretchTimeout =>
    simp only [exec, execStretchTimeout] at h
    split at h
    · exact event_same s t p _ _ (s.timeOut_same hf.1 hf.2 _ _ _ _ _) h
    · exact event_refused_same h
  case transactionTimeout =>
    simp only [exec, execTransactionTimeout] at h
    split at h
    · exact event_same s t p _ _ (s.timeOut_same hf.1 hf.2 _ _ _ _ _) h
    · exact event_refused_same h
  case foreignStart | stopSeen => exact event_same s t p _ _ (s.foreignCondition_same hf.1 hf.2 _) h
  case recoveryClockRise => exact event_same s t p _ _ (Part.same_of_bus hf (by simp [State.stopWait])) h
  case dBusLineChange => exact event_same s t p _ _ (s.lineChanges_same hf _ _) h
  case lineFallInFree => exact event_same s t p _ _ ((s.lineFalls_same hf).trans (State.seeFall_same hf _ _)) h
  case heldDataExpiry => exact event_same s t p _ _ (s.heldDataExpires_same hf) h
  case retryCountExpiry => exact event_same s t p _ _ (s.enterRecovery_same hf _ _) h
  case recoveryPulse => exact event_same s t p _ _ (s.recoveryPulse_same hf.1 _ hf.2) h
  case stuckLimitExpiry =>
    exact event_same s t p _ _ ((s.seeReleased_same hf.1).trans (State.enterStuck_same hf.1 _ hf.2)) h
  case recoveryStopComplete => exact event_same s t p _ _ (s.completeRecovery_same hf.1 hf.2) h
  case recoveryStopFail =>
    have h1 : p.same s (s.see true false) :=
      Part.same_of_bus hf.1 (by simp)
    exact event_same s t p _ _ (h1.trans (State.enterStuck_same hf.1 _ hf.2)) h
  case busFreeTimePassed | idleDetect => exact event_same s t p _ _ (s.becomeFree_same hf.1 hf.2) h
  case deadlineExpiry =>
    simp only [exec, execDeadlineExpiry] at h
    split at h
    · exact event_same s t p _ _ ((s.dequeue_same p _ _ (Part.ne_queue hf)).trans
        (State.finish_same _ p _ _ _ hf)) h
    · exact event_refused_same h
  case leaseExpiry =>
    simp only [exec, execLeaseExpiry] at h
    split at h
    · exact event_same s t p _ _ (s.expireLease_same _ hf.1 hf.2.1 hf.2.2) h
    · exact event_refused_same h
  case pollDue =>
    simp only [exec, execPollDue] at h
    split at h
    · exact event_same s t p _ _ (s.allFallDue_same hf.1 hf.2.1 hf.2.2 _) h
    · exact event_refused_same h
  case staleness =>
    simp only [exec, execStaleness] at h
    split at h
    · exact event_same s t p _ _ (s.setEntry_same p _ _ hf) h
    · exact event_refused_same h
  case brokerResetEntry | brokerResetRelease => cases hf

/-- Settles O3: the frame is that of the operations a command is made of. -/
theorem framePartByPart : Obligations.FramePartByPart := fun i _ _ _ h hm => exec_same i hm h

end Sys2Proof.Machine

/-! The ports' invariant (R152, R157, R168 to R174): each operation on a port keeps it, and so does every command. -/

namespace Sys2Proof.Machine

variable {s t : State}

/-! ### The ports' checks as propositions -/

/-- The check of a two-wire port, clause by clause. -/
structure Tw.WellFormed (p : Tw) : Prop where
  hold : p.target = .hold → p.slot.isWaiting = true
  send : p.target = .send → p.slot.isWaiting = false
  handed : p.handed ≠ none → p.slot = .waiting
  since : p.since ≠ none → p.target = .hold ∧ p.slot = .waiting
  buffer : p.buffer.length ≤ Config.maxBuffer

theorem Tw.wf_iff (p : Tw) : p.wf = true ↔ p.WellFormed := by
  simp only [Tw.wf, Bool.and_eq_true, Bool.or_eq_true, Bool.not_eq_true', Option.isNone_iff_eq_none,
    decide_eq_true_eq, or_iff_not_imp_left, ne_eq, not_not]
  exact ⟨fun ⟨⟨⟨⟨hh, hs⟩, hi⟩, hc⟩, hb⟩ => ⟨hh, hs, hi, hc, hb⟩,
    fun h => ⟨⟨⟨⟨h.hold, h.send⟩, h.handed⟩, h.since⟩, h.buffer⟩⟩

/-- The check of Port C, clause by clause. -/
structure PortC.WellFormed (p : PortC) : Prop where
  block : p.inBlock = true → (p.slot = .empty ↔ p.beganWaiting = false)
  discarded : p.discarded = true → p.slot ≠ .empty
  handed : p.handed ≠ none → p.slot = .waiting
  undiscarded : p.handed ≠ none → p.discarded = false
  since : p.since ≠ none → p.slot = .waiting
  buffer : p.buffer.length ≤ Config.maxBuffer

/-- In a block the slot is EMPTY exactly where the block did not begin WAITING (R166, R169). -/
theorem PortC.slot_in_block_iff (p : PortC) :
    ((if p.beganWaiting then p.slot ≠ .empty else p.slot = .empty : Bool) = true) ↔
      (p.slot = .empty ↔ p.beganWaiting = false) := by
  cases p.beganWaiting <;> simp

theorem PortC.wf_iff (p : PortC) : p.wf = true ↔ p.WellFormed := by
  simp only [PortC.wf, Bool.and_eq_true, Bool.or_eq_true, Bool.not_eq_true', Option.isNone_iff_eq_none,
    decide_eq_true_eq, or_iff_not_imp_left, ne_eq, Bool.not_eq_false]
  rw [PortC.slot_in_block_iff]
  exact ⟨fun ⟨⟨⟨⟨⟨hb, hd⟩, hh⟩, hu⟩, hs⟩, hl⟩ => ⟨hb, hd, hh, hu, hs, hl⟩,
    fun h => ⟨⟨⟨⟨⟨h.block, h.discarded⟩, h.handed⟩, h.undiscarded⟩, h.since⟩, h.buffer⟩⟩

/-! ### What the events of an upstream bus keep -/

namespace Tw.WellFormed

variable {p : Tw}

/-- With no command handed over and no time of a hold kept, the slot and the target state have to agree. -/
theorem of_unhanded (hh : p.target = .hold → p.slot.isWaiting = true)
    (hs : p.target = .send → p.slot.isWaiting = false) (hn : p.handed = none) (hz : p.since = none)
    (hb : p.buffer.length ≤ Config.maxBuffer) : p.WellFormed :=
  ⟨hh, hs, fun h0 => absurd hn h0, fun h0 => absurd hz h0, hb⟩

theorem goTo (h : p.WellFormed) {t : Target} (hh : t = .hold → p.slot.isWaiting = true)
    (hs : t = .send → p.slot.isWaiting = false) : (p.goTo t).WellFormed :=
  ⟨hh, hs, h.handed, fun hn => absurd rfl hn, h.buffer⟩

/-- A slot becomes READY: a hold ends with it (R157). -/
theorem makeReady (h : p.WellFormed) (f : List Byte) : (p.makeReady f).WellFormed := by
  unfold Tw.makeReady
  split_ifs with ht
  · exact .of_unhanded nofun (fun _ => rfl) rfl rfl h.buffer
  · exact .of_unhanded (fun hh => absurd hh ht) (fun _ => rfl) rfl rfl h.buffer

theorem await (h : p.WellFormed) (ht : p.target ≠ .send) (i : Option Instr) : (p.await i).WellFormed :=
  ⟨fun _ => rfl, fun hs => absurd hs ht, fun _ => rfl, fun hn => absurd rfl hn, h.buffer⟩

theorem target_ne_send (h : p.WellFormed) (hw : p.slot.isWaiting = true) : p.target ≠ .send := fun ht =>
  absurd hw (by simp [h.send ht])

theorem awaitTicket (h : p.WellFormed) (hw : p.slot = .waiting) (n limit : Nat) : (p.awaitTicket n limit).WellFormed :=
  .of_unhanded (fun _ => rfl) (fun hs => absurd hs (h.target_ne_send (by rw [hw]; rfl))) rfl rfl h.buffer

/-- A command handed over, or the time of a hold before an admission, means a slot that waits: else there is neither. -/
theorem idle_of_not_waiting (h : p.WellFormed) (hw : p.slot ≠ .waiting) : p.handed = none ∧ p.since = none :=
  ⟨by_contra fun hn => hw (h.handed hn), by_contra fun hn => hw (h.since hn).2⟩

/-- A read of the own address: the target state follows the slot (Table 8.4). -/
theorem beginRead (h : p.WellFormed) : p.beginRead.WellFormed := by
  cases hs : p.slot with
  | empty =>
    rw [Tw.beginRead_empty hs]
    exact { h.goTo (t := .send) nofun (fun _ => by rw [hs]; rfl) with }
  | ready f =>
    rw [Tw.beginRead_ready hs]
    exact { h.goTo (t := .send) nofun (fun _ => by rw [hs]; rfl) with }
  | waiting =>
    rw [Tw.beginRead_waiting hs]
    exact { h.goTo (t := .hold) (fun _ => by rw [hs]; rfl) nofun with since := fun _ => ⟨rfl, hs⟩ }
  | onTicket n limit =>
    rw [Tw.beginRead_onTicket hs]
    exact { h.goTo (t := .hold) (fun _ => by rw [hs]; rfl) nofun with }

theorem beginWrite (h : p.WellFormed) : p.beginWrite.WellFormed :=
  { h.goTo (t := .receive) nofun nofun with buffer := Nat.zero_le _ }

theorem afterAddress (h : p.WellFormed) (own : Nat) (b : Byte) : (p.afterAddress own b).WellFormed := by
  unfold Tw.afterAddress
  split_ifs
  · exact h.beginRead
  · exact h.beginWrite
  · exact h.goTo nofun nofun

/-- The end of a write transfer leads to a target state that neither holds nor sends (R150). -/
theorem received (h : p.WellFormed) (bytes : List Byte) (c : Cond) :
    ((p.received bytes).goTo (condTarget c)).WellFormed := by
  have hr : (p.received bytes).WellFormed :=
    ⟨h.hold, h.send, h.handed, h.since, List.length_take_le _ _⟩
  cases c <;> exact hr.goTo nofun nofun

theorem abortWrite (h : p.WellFormed) (c : Cond) : (p.abortWrite c).WellFormed := by
  have hg : (p.goTo (condTarget c)).WellFormed := by cases c <;> exact h.goTo nofun nofun
  exact { hg with buffer := Nat.zero_le _ }

/-- A frame has been sent through its check byte (R154, R156). -/
theorem afterCheckByte (h : p.WellFormed) (ack : Bool) : (p.afterCheckByte ack).WellFormed := by
  cases ack
  · exact h.goTo nofun nofun
  · exact { h with }

/-- A slot that waits for no owner can be emptied outside a hold. -/
theorem emptied (h : p.WellFormed) (ht : p.target ≠ .hold) (hw : p.slot ≠ .waiting) :
    ({ p with slot := .empty } : Tw).WellFormed := by
  obtain ⟨hn, hz⟩ := h.idle_of_not_waiting hw
  exact .of_unhanded (fun hh => absurd hh ht) (fun _ => rfl) hn hz h.buffer

theorem responseRead (h : p.WellFormed) (ht : p.target = .send) (ack : Bool) : (p.responseRead ack).WellFormed := by
  have hw : p.slot ≠ .waiting := fun h0 => h.target_ne_send (by rw [h0]; rfl) ht
  refine (h.afterCheckByte ack).emptied ?_ ?_
  · cases ack <;> simp [Tw.afterCheckByte, Tw.goTo, ht]
  · cases ack <;> exact hw

/-- A change of the broker time starts no time of a hold (R143). -/
theorem tick (h : p.WellFormed) : p.tick.WellFormed :=
  { h with since := fun hn => h.since fun h0 => hn (by simp [Tw.tick, h0]) }

end Tw.WellFormed

/-! ### What the events of Port C keep -/

/-- The lead byte 0xFE says that the slot waits (Table 9.2). -/
theorem PortC.beganWaiting_beginBlock (p : PortC) (gap : Nat) :
    (p.beginBlock gap).beganWaiting = p.slot.isWaiting := by
  unfold PortC.beginBlock PortC.beganWaiting PortC.leadByte
  cases p.slot <;> cases p.discarded <;> rfl

namespace PortC.WellFormed

variable {p : PortC}

/-- With no command handed over and no time since its block kept, the slot has to agree with the block and the mark. -/
theorem of_unhanded (hb : p.inBlock = true → (p.slot = .empty ↔ p.beganWaiting = false))
    (hd : p.discarded = true → p.slot ≠ .empty) (hn : p.handed = none) (hz : p.since = none)
    (hl : p.buffer.length ≤ Config.maxBuffer) : p.WellFormed :=
  ⟨hb, hd, fun h0 => absurd hn h0, fun h0 => absurd hn h0, fun h0 => absurd hz h0, hl⟩

/-- A waiting slot becomes READY: a block in progress began with it waiting (R168). -/
theorem makeReady (h : p.WellFormed) (hw : p.slot.isWaiting = true) (f : List Byte) : (p.makeReady f).WellFormed := by
  have hne : p.slot ≠ .empty := fun h0 => by rw [h0] at hw; cases hw
  exact .of_unhanded (fun hb => ⟨nofun, fun hl => absurd ((h.block hb).2 hl) hne⟩) (fun _ => nofun) rfl rfl h.buffer

/-- Between blocks, with the discarded mark clear, the slot can wait for the owner of a new frame (R168, R174). -/
theorem await (h : p.WellFormed) (hb : p.inBlock = false) (hd : p.discarded = false) (i : Option Instr) :
    (p.await i).WellFormed :=
  ⟨fun h0 => absurd (hb.symm.trans h0) Bool.false_ne_true, fun _ => nofun, fun _ => rfl, fun _ => hd, fun _ => rfl,
    h.buffer⟩

theorem awaitTicket (h : p.WellFormed) (hw : p.slot = .waiting) (n limit : Nat) :
    (p.awaitTicket n limit).WellFormed :=
  .of_unhanded (fun hb => ⟨nofun, fun hl => absurd ((h.block hb).2 hl) (by simp [hw])⟩) (fun _ => nofun) rfl rfl
    h.buffer

theorem idle_of_not_waiting (h : p.WellFormed) (hw : p.slot ≠ .waiting) : p.handed = none ∧ p.since = none :=
  ⟨by_contra fun hn => hw (h.handed hn), by_contra fun hn => hw (h.since hn)⟩

/-- A response given out leaves the slot EMPTY and the discarded mark clear (R169). -/
theorem giveOut (h : p.WellFormed) (hb : p.inBlock = false) : p.giveOut.WellFormed := by
  unfold PortC.giveOut
  split
  case h_1 f hs =>
    obtain ⟨hn, hz⟩ := h.idle_of_not_waiting (by simp [hs])
    exact .of_unhanded (fun h0 => absurd (hb.symm.trans h0) Bool.false_ne_true) nofun hn hz h.buffer
  all_goals exact { h with }

/-- The lead byte names the slot that the block leaves: EMPTY unless it waits (Table 9.2). -/
theorem beginBlock (h : p.WellFormed) (hb : p.inBlock = false) (gap : Nat) : (p.beginBlock gap).WellFormed := by
  have hg := h.giveOut hb
  refine { hg with block := fun _ => ?_, buffer := Nat.zero_le _ }
  rw [PortC.beganWaiting_beginBlock]
  cases hs : p.slot <;> simp [PortC.beginBlock, PortC.giveOut, hs, Slot.isWaiting]

theorem tick (h : p.WellFormed) : p.tick.WellFormed :=
  { h with since := fun hn => h.since fun h0 => hn (by simp [PortC.tick, h0]) }

end PortC.WellFormed

/-! ### The three ports of a state -/

/-- The three ports are well formed. -/
structure State.PortsOk (s : State) : Prop where
  tw : ∀ port, (s.tw port).WellFormed
  portC : s.portC.WellFormed

theorem State.portsWf_iff (s : State) : s.portsWf = true ↔ s.PortsOk := by
  simp only [State.portsWf, Bool.and_eq_true, Tw.wf_iff, PortC.wf_iff]
  exact ⟨fun ⟨⟨ha, hb⟩, hc⟩ => ⟨fun port => by cases port <;> assumption, hc⟩,
    fun h => ⟨⟨h.tw .a, h.tw .b⟩, h.portC⟩⟩

/-- The parts that are ports. -/
inductive Part.IsPort : Part → Prop where
  | twoWire (port : TwPort) : IsPort (.port port)
  | portC : IsPort .portC

theorem Part.IsPort.ne {p q : Part} (hp : p.IsPort) (hq : ¬ q.IsPort := by nofun) : p ≠ q := by
  rintro rfl
  exact hq hp

theorem Part.IsPort.not_records {p : Part} (hp : p.IsPort) : p.isRecords = false := by cases hp <;> rfl

theorem Part.IsPort.not_bus {p : Part} (hp : p.IsPort) : p.isBus = false := by cases hp <;> rfl

/-- Two states have the same ports. -/
def State.samePorts (s t : State) : Prop := ∀ p : Part, p.IsPort → p.same s t

theorem State.samePorts.slotOf (h : s.samePorts t) (o : Direct) : t.slotOf o = s.slotOf o := by
  have hp := h (portPart o) (by cases o <;> constructor)
  cases o
  · exact congrArg Tw.slot hp
  · exact congrArg Tw.slot hp
  · exact congrArg PortC.slot hp

theorem State.samePorts.trans {u : State} (h1 : s.samePorts t) (h2 : t.samePorts u) : s.samePorts u := fun p hp =>
  (h1 p hp).trans (h2 p hp)

namespace State.PortsOk

theorem of_samePorts (h : s.PortsOk) (hp : s.samePorts t) : t.PortsOk :=
  ⟨fun port => (hp _ (.twoWire port) : t.tw port = s.tw port) ▸ h.tw port,
    (hp _ .portC : t.portC = s.portC) ▸ h.portC⟩

theorem settle (h : s.PortsOk) : s.settle.PortsOk := h.of_samePorts fun p _ => Part.same_settle s p

theorem setTw (h : s.PortsOk) (port : TwPort) {x : Tw} (hx : x.WellFormed) : (s.setTw port x).PortsOk := by
  refine ⟨fun q => ?_, ?_⟩
  · cases port <;> cases q
    · exact hx
    · exact h.tw .b
    · exact h.tw .a
    · exact hx
  · cases port <;> exact h.portC

theorem setPortC (h : s.PortsOk) {x : PortC} (hx : x.WellFormed) : (s.setPortC x).PortsOk :=
  ⟨fun port => by cases port; exacts [h.tw .a, h.tw .b], hx⟩

theorem handed_waits (h : s.PortsOk) {o : Direct} (hh : s.handedOf o ≠ none) : s.slotOf o = .waiting := by
  cases o
  · exact (h.tw .a).handed hh
  · exact (h.tw .b).handed hh
  · exact h.portC.handed hh

/-! An answer, and a frame handed over. -/

theorem putReady (h : s.PortsOk) {o : Direct} (hw : (s.slotOf o).isWaiting = true) (f : List Byte) :
    (s.putReady o f).PortsOk := by
  cases o
  · exact h.setTw .a ((h.tw .a).makeReady f)
  · exact h.setTw .b ((h.tw .b).makeReady f)
  · exact h.setPortC (h.portC.makeReady hw f)

theorem awaitTicket (h : s.PortsOk) {o : Direct} (hw : s.slotOf o = .waiting) (n : Nat) :
    (s.awaitTicket o n).PortsOk := by
  cases o
  · exact h.setTw .a ((h.tw .a).awaitTicket hw n _)
  · exact h.setTw .b ((h.tw .b).awaitTicket hw n _)
  · exact h.setPortC (h.portC.awaitTicket hw n _)

theorem reply (h : s.PortsOk) {o : Direct} (hw : s.slotOf o = .waiting) (r : Reply) : (s.reply o r).PortsOk := by
  cases r with
  | answer status payload => exact h.putReady (by rw [hw]; rfl) _
  | onTicket n => exact h.awaitTicket hw n

end State.PortsOk

theorem State.stopWaiting_samePorts (s : State) (o : Direct) : s.samePorts (s.stopWaiting o) := by
  intro p hp
  unfold State.stopWaiting
  split
  · exact s.setQueue_same p _ hp.ne
  · exact Part.same_refl s p

/-- Port C can have handed over a frame that is not shown only between blocks (log 2). -/
theorem State.between_of_portOpen (h : s.portOpen .c = true) : s.portC.inBlock = false := by
  unfold State.portOpen at h
  dsimp only at h
  split at h
  case h_1 | h_2 => simpa using h
  all_goals cases h

/-- A port can take a frame: a two-wire port outside a read, Port C between blocks with the discarded mark clear. -/
def State.takesFrame (s : State) : Direct → Prop
  | .a => s.portA.target ≠ .send
  | .b => s.portB.target ≠ .send
  | .c => s.portC.inBlock = false ∧ s.portC.discarded = false

namespace State.PortsOk

theorem replaceSlot (h : s.PortsOk) {o : Direct} (ht : s.takesFrame o) (i : Option Instr) :
    (s.replaceSlot o i).PortsOk := by
  have hs := h.of_samePorts (s.stopWaiting_samePorts o)
  cases o
  · exact hs.setTw .a ((h.tw .a).await ht i)
  · exact hs.setTw .b ((h.tw .b).await ht i)
  · exact hs.setPortC (h.portC.await ht.1 ht.2 i)

/-- A frame that the decoder refuses is answered at once; another's command is handed over (R138, R139). -/
theorem decoded (h : s.PortsOk) {o : Direct} (ht : s.takesFrame o) (d : Decoded) : (s.decoded o d).PortsOk := by
  cases d with
  | refused status => exact (h.replaceSlot ht none).putReady (by cases o <;> rfl) _
  | command i => exact h.replaceSlot ht (some i)

/-- A frame that is not shown has ended the transfer or the block of its port (log 2). -/
theorem withFrame (h : s.PortsOk) {o : Direct} (ho : s.portOpen o = true) (i : Instr) : (s.withFrame o i).PortsOk := by
  cases o
  · exact (h.setTw .a ((h.tw .a).goTo (t := .idle) nofun nofun)).replaceSlot (o := .a) nofun _
  · exact (h.setTw .b ((h.tw .b).goTo (t := .idle) nofun nofun)).replaceSlot (o := .b) nofun _
  · have hx : ({ s.portC with discarded := false } : PortC).WellFormed :=
      { h.portC with discarded := nofun, undiscarded := fun _ => rfl }
    exact (h.setPortC hx).replaceSlot (o := .c) ⟨State.between_of_portOpen ho, rfl⟩ _

/-- The wait for a ticket ends with PENDING (R158, R173). -/
theorem holdExpires (h : s.PortsOk) {o : Direct} {n limit : Nat} (hs : s.slotOf o = .onTicket n limit) (k : Nat) :
    (s.holdExpires o k).PortsOk := by
  have hp := s.stopWaiting_samePorts o
  exact (h.of_samePorts hp).putReady (by rw [hp.slotOf, hs]; rfl) _

end State.PortsOk

/-! ### The end of a ticket (R10, R159, R173) -/

/-- Of the ports, the outcome of a direct ticket reaches the one that waits on it, with its copy. -/
theorem State.handOver_samePorts (s : State) (o : Direct) (k : Ticket) (r : Result) :
    (if k.waited then s.deliverCopy o (k.record r s.time) else s).samePorts (s.handOver o k r) := by
  intro p hp
  have hq : p ≠ .queue := hp.ne
  unfold State.handOver
  generalize (if k.waited then s.deliverCopy o (k.record r s.time) else s) = u
  dsimp only
  split_ifs
  · exact (u.setRec_same p o _ hp.ne).trans (State.departed_same hq hp.ne hp.ne _)
  · exact u.setWaiting_same p o _ hq

theorem State.departed_samePorts (s : State) : s.samePorts s.departed := fun _ hp =>
  s.departed_same hp.ne hp.ne hp.ne

theorem State.pollResult_samePorts (s : State) (i : Nat) (r : Result) (v : List Byte) :
    s.samePorts (s.pollResult i r v) := fun p hp =>
  s.pollResult_same p i r v hp.ne hp.not_records

theorem State.setQueue_samePorts (s : State) (q : Queue) : s.samePorts (s.setQueue q) := fun p hp =>
  s.setQueue_same p q hp.ne

/-- A port that waits for an owner waits on no ticket: an outcome leaves it. -/
theorem State.deliverCopy_of_waiting {o : Direct} (h : s.slotOf o = .waiting) (x : Record) :
    s.deliverCopy o x = s := by
  simp only [State.deliverCopy, h]

/-- A ticket ended by a command of its own origin reaches no port: the origin's port waits for the command's owner. -/
theorem State.endQueued_samePorts {o : Direct} (h : s.slotOf o = .waiting) (k : Ticket) (r : Result) :
    s.samePorts (s.endQueued (directOrigin o) k r) := by
  have h1 : s.samePorts (s.dequeue (directOrigin o) k.number) := s.setQueue_samePorts _
  refine h1.trans ?_
  unfold State.endQueued State.finish
  rw [originDirect_directOrigin]
  split_ifs
  · exact State.departed_samePorts _
  · have h2 := State.handOver_samePorts (s.dequeue (directOrigin o) k.number) o k.clearProgress r
    rwa [State.deliverCopy_of_waiting ((h1.slotOf o).trans h), ite_self] at h2

namespace State.PortsOk

theorem deliverCopy (h : s.PortsOk) (o : Direct) (x : Record) : (s.deliverCopy o x).PortsOk := by
  unfold State.deliverCopy
  split
  case h_1 n limit hs =>
    split_ifs
    · exact h.putReady (by rw [hs]; rfl) _
    · exact h
  all_goals exact h

theorem finish (h : s.PortsOk) (q : Origin) (k : Ticket) (r : Result) : (s.finish q k r).PortsOk := by
  unfold State.finish
  split_ifs
  · exact h.of_samePorts s.departed_samePorts
  · split
    · refine State.PortsOk.of_samePorts ?_ (s.handOver_samePorts _ k r)
      split_ifs
      · exact h.deliverCopy _ _
      · exact h
    · exact h.of_samePorts ((s.pollResult_samePorts _ r _).trans (State.departed_samePorts _))

theorem endActive (h : s.PortsOk) (k : Ticket) (r : Result) : (s.endActive k r).PortsOk :=
  (h.of_samePorts (s.setQueue_samePorts _)).finish _ k r

theorem lost (h : s.PortsOk) (k : Ticket) : (s.lost k).PortsOk := by
  unfold State.lost
  split_ifs
  case neg => exact h.of_samePorts (s.setQueue_samePorts _)
  all_goals exact h.finish _ _ _

theorem of_ports (h : s.PortsOk) (ha : t.portA = s.portA) (hb : t.portB = s.portB) (hc : t.portC = s.portC) :
    t.PortsOk := by
  rw [← State.portsWf_iff] at h ⊢
  rwa [State.portsWf, ha, hb, hc]

/-! A ticket leaves the bus: the engine and the monitor move, and the ticket ends. -/

theorem completeStop (h : s.PortsOk) (k : Ticket) (r : Result) : (s.completeStop k r).PortsOk := by
  have h1 : s.stopped.PortsOk := h.of_ports rfl rfl rfl
  exact h1.endActive k r

theorem loseArbitration (h : s.PortsOk) (k : Ticket) (cut : Sampled) : (s.loseArbitration k cut).PortsOk := by
  have h1 : s.backedOff.PortsOk := h.of_ports rfl rfl rfl
  exact h1.lost _

theorem condSeen (h : s.PortsOk) (c : Cond) : (s.condSeen c).PortsOk :=
  h.of_samePorts fun _ hp => s.condSeen_same hp.not_bus c

theorem misplaced (h : s.PortsOk) (c : Cond) (cut : Sampled) (k : Ticket) : (s.misplaced c cut k).PortsOk := by
  have h1 : (s.setEngine (s.engine.letGo .idle)).PortsOk := h.of_ports rfl rfl rfl
  exact (h1.condSeen c).endActive _ _

theorem timeOut (h : s.PortsOk) (k : Ticket) (cut : Sampled) (r : Result) (scl sda : Bool) :
    (s.timeOut k cut r scl sda).PortsOk :=
  (h.endActive _ r).of_samePorts fun _ hp => State.enterRecovery_same hp.not_bus _ scl sda

theorem foreignCondition (h : s.PortsOk) (c : Cond) : (s.foreignCondition c).PortsOk := by
  unfold State.foreignCondition
  split
  · exact h.misplaced c _ _
  · exact h.condSeen c

end State.PortsOk

/-! ### Events -/

namespace State.PortsOk

/-- What an event's effect keeps, the event keeps. -/
theorem event (hs : s.PortsOk) {possible : Bool} {e : State} (he : possible = true → e.PortsOk)
    (h : event possible e s = .next t) : t.PortsOk := by
  rcases event_cases s possible e with ⟨-, hp, h1⟩ | h1 <;> cases h1.symm.trans h
  · exact (he hp).settle
  · exact hs

theorem event_refused (hs : s.PortsOk) (h : Machine.event false s s = .next t) : t.PortsOk :=
  hs.event (fun hp => absurd hp Bool.false_ne_true) h

/-- A write transfer that ends with bytes replaces the slot in RECEIVE, where the port sends nothing (R150, R153). -/
theorem endWrite (h : s.PortsOk) (port : TwPort) (bytes : List Byte) (c : Cond) :
    (s.endWrite port bytes c).PortsOk := by
  have h1 := h.setTw port ((h.tw port).received bytes c)
  unfold State.endWrite
  dsimp only
  split_ifs
  · exact h1
  · exact h1.decoded (by cases port <;> cases c <;> nofun) _

/-- The end of a block: a discarded request means a slot that waits and no command handed over (R170, R174); a request
taken, a slot that is EMPTY with the discarded mark clear (R169). -/
theorem endBlock (h : s.PortsOk) {bytes : List Byte} (hb : s.portC.inBlock = true)
    (hn : bytes = [] ∨ s.portC.handed = none) : (s.endBlock bytes).PortsOk := by
  have hx : (s.portC.took bytes).between.WellFormed :=
    { h.portC with block := nofun, buffer := List.length_take_le _ _ }
  have h1 := h.setPortC hx
  unfold State.endBlock State.takeRequest
  dsimp only
  split
  case h_1 => exact h1
  case h_2 hreq =>
    have hne : bytes ≠ [] := by
      rintro rfl
      cases hreq
    have hnone := hn.resolve_left hne
    split_ifs with hw
    · have hslot : s.portC.slot ≠ .empty := fun h0 => by
        have hempty := (h.portC.block hb).1 h0
        cases hempty.symm.trans hw
      exact h1.setPortC
        { hx with block := nofun, discarded := fun _ => hslot, undiscarded := fun h0 => absurd hnone h0 }
    · refine h1.decoded (o := .c) ⟨rfl, ?_⟩ _
      have hslot : s.portC.slot = .empty := (h.portC.block hb).2 (Bool.eq_false_iff.2 hw)
      exact Bool.eq_false_iff.2 fun hd => h.portC.discarded hd hslot

theorem tick (h : s.PortsOk) : s.tick.PortsOk :=
  ⟨fun port => by cases port; exacts [(h.tw .a).tick, (h.tw .b).tick], h.portC.tick⟩

end State.PortsOk

/-! ### Commands -/

/-- A command whose act leaves the ports as they are while its own port waits for it: the answer finds that port
waiting. -/
theorem State.PortsOk.command (hs : s.PortsOk) {o : Direct} {i : Instr} {act : State → State × Reply}
    (hact : ∀ u : State, u.slotOf o = .waiting → u.samePorts (act u).1) (h : command o i act s = .next t) :
    t.PortsOk := by
  have hc : ∀ u : State, u.PortsOk → u.hands o i = true → (u.carryOut o act).PortsOk := fun u hu hh => by
    have hw : u.slotOf o = .waiting := by
      simp only [State.hands, Bool.and_eq_true, decide_eq_true_eq] at hh
      exact hu.handed_waits (by simp [hh.2])
    have hp := hact u hw
    exact ((hu.of_samePorts hp).reply ((hp.slotOf o).trans hw) _).settle
  rcases command_cases s o i act with ⟨hh, h1⟩ | ⟨hu, h1⟩ | h1 <;> cases h1.symm.trans h
  · exact hc s hs hh
  · have ho : s.portOpen o = true := by
      simp only [State.takesUnshown, Bool.and_eq_true] at hu
      exact hu.2
    exact hc _ (hs.withFrame ho i) (State.hands_withFrame hu i)
  · exact hs

theorem State.cancel_samePorts {o : Direct} (h : s.slotOf o = .waiting) (n : Nat) : s.samePorts (s.cancel o n).1 := by
  rcases s.cancel_cases o n with ⟨k, -, hx⟩ | ⟨k, -, hx⟩ | hx <;> rw [hx]
  · exact State.endQueued_samePorts h k _
  · exact s.setQueue_samePorts _
  · exact fun p _ => Part.same_refl s p

/-- A request keeps the ports: its owner's act leaves them, and its answer reaches the port that waits for it. -/
theorem State.PortsOk.exec_request {i : Instr} {o : Direct} (hs : s.PortsOk) (hi : i.request.map Prod.fst = some o)
    (h : exec i s = .next t) : t.PortsOk := by
  cases i
  case submit => exact hs.command (fun u _ p hp => u.submit_same _ _ hp.ne) h
  case transact => exact hs.command (fun u _ p hp => u.transact_same _ _ hp.ne) h
  case cancel => exact hs.command (fun u hw => State.cancel_samePorts hw _) h
  case ticketQuery | mirrorRead | settingRead | status => exact hs.command (fun u _ p _ => Part.same_refl u p) h
  case collect => exact hs.command (fun u _ p hp => u.collect_same hp.ne hp.ne hp.ne _ _ _ hp.ne) h
  case notices => exact hs.command (fun u _ p hp => u.fetchNotices_same _ _ _ _ hp.ne) h
  case lease => exact hs.command (fun u _ p hp => u.lease_same _ _ _ _ hp.ne) h
  case release => exact hs.command (fun u _ p hp => u.release_same _ _ hp.ne) h
  case mirrorDefine => exact hs.command (fun u _ p hp => u.mirrorDefine_same hp.ne hp.ne hp.ne _ _ _) h
  case mirrorDrop =>
    exact hs.command (fun u _ p hp => u.mirrorDrop_same hp.ne hp.ne hp.ne _ _ hp.not_records) h
  case subscribe | unsubscribe =>
    exact hs.command (fun u _ p hp => u.setSubscribed_same _ _ _ p hp.ne) h
  case refresh => exact hs.command (fun u _ p hp => u.refresh_same hp.ne hp.ne hp.ne _) h
  case settingWrite =>
    exact hs.command (fun u _ p hp => u.settingWrite_same _ _ _ hp.ne hp.ne hp.ne hp.ne hp.not_records
      hp.not_bus) h
  case originReset q =>
    exact hs.command (act := fun u => (u.originReset q, .answer .ok [])) (fun u _ p hp =>
      u.originReset_same hp.ne hp.ne hp.ne _ hp.ne hp.not_records) h
  case busRecover => exact hs.command (fun u _ p hp => u.busRecover_same hp.not_bus) h
  all_goals cases hi

/-! ### Every command -/

/-- The events of the ports (R148 to R158, R163 to R173). -/
theorem State.PortsOk.exec_portEvent {i : Instr} (hs : s.PortsOk) (hi : isPortEvent i = true)
    (h : exec i s = .next t) : t.PortsOk := by
  cases i
  case upstreamAddressByte port b => exact hs.event (fun _ => hs.setTw port ((hs.tw port).afterAddress _ b)) h
  case writeTransferEnd port bytes c => exact hs.event (fun _ => hs.endWrite port bytes c) h
  case writeTransferAbort port c => exact hs.event (fun _ => hs.setTw port ((hs.tw port).abortWrite c)) h
  case responseReadComplete port ack =>
    refine hs.event (fun hp => hs.setTw port ((hs.tw port).responseRead ?_ ack)) h
    simp only [Bool.and_eq_true, decide_eq_true_eq] at hp
    exact hp.1
  case readEndedEarly port how =>
    exact hs.event (fun _ => hs.setTw port (by cases how <;> exact (hs.tw port).goTo nofun nofun)) h
  case noRequest port ack => exact hs.event (fun _ => hs.setTw port ((hs.tw port).afterCheckByte ack)) h
  case upstreamStop port => exact hs.event (fun _ => hs.setTw port ((hs.tw port).goTo (t := .idle) nofun nofun)) h
  case blockStart => exact hs.event (fun hp => hs.setPortC (hs.portC.beginBlock (by simpa using hp) _)) h
  case blockEnd bytes bits =>
    refine hs.event (fun hp => ?_) h
    simp only [Bool.and_eq_true, Bool.or_eq_true, List.isEmpty_iff, Option.isNone_iff_eq_none] at hp
    obtain ⟨⟨hblock, -⟩, hfree⟩ := hp
    exact hs.endBlock hblock hfree
  case holdLimitExpiry port =>
    simp only [exec, execHoldLimitExpiry] at h
    split at h
    case h_1 n limit hslot => exact hs.event (fun _ => hs.holdExpires ((s.slotOf_portOrigin port).trans hslot) n) h
    all_goals exact hs.event_refused h
  case portCHoldExpiry =>
    simp only [exec, execPortCHoldExpiry] at h
    split at h
    case h_1 n limit hslot => exact hs.event (fun _ => hs.holdExpires (o := .c) hslot n) h
    all_goals exact hs.event_refused h
  all_goals cases hi

/-- A command whose frame holds no port leaves the ports. -/
theorem State.PortsOk.exec_frame {i : Instr} (hs : s.PortsOk) (ha : mayChange i (.port .a) = false)
    (hb : mayChange i (.port .b) = false) (hc : mayChange i .portC = false) (h : exec i s = .next t) : t.PortsOk :=
  hs.of_ports (exec_same i ha h) (exec_same i hb h) (exec_same i hc h)

/-- Every command keeps the ports: a request and a port's event by their cases above, the ends of tickets through a copy
that a waiting port takes, the rest by their frame. -/
theorem State.PortsOk.exec {i : Instr} (hs : s.PortsOk) (h : exec i s = .next t) : t.PortsOk := by
  cases i
  case submit | transact | cancel | ticketQuery | collect | notices | lease | release | mirrorDefine | mirrorDrop
      | mirrorRead | subscribe | unsubscribe | refresh | settingRead | settingWrite | status | originReset
      | busRecover =>
    exact hs.exec_request rfl h
  case upstreamAddressByte | writeTransferEnd | writeTransferAbort | responseReadComplete | readEndedEarly | noRequest
      | holdLimitExpiry | blockStart | blockEnd | portCHoldExpiry | upstreamStop =>
    exact hs.exec_portEvent rfl h
  case stopComplete =>
    simp only [Machine.exec, execStopComplete] at h
    split at h
    · exact hs.event (fun _ => hs.completeStop _ _) h
    · exact hs.event_refused h
  case arbitrationLost cut =>
    simp only [Machine.exec, execArbitrationLost] at h
    split at h
    · exact hs.event (fun _ => hs.loseArbitration _ cut) h
    · exact hs.event_refused h
  case misplacedCondition c cut =>
    simp only [Machine.exec, execMisplacedCondition] at h
    split at h
    · exact hs.event (fun _ => hs.misplaced c cut _) h
    · exact hs.event_refused h
  case stretchTimeout cut scl sda =>
    simp only [Machine.exec, execStretchTimeout] at h
    split at h
    · exact hs.event (fun _ => hs.timeOut _ cut _ scl sda) h
    · exact hs.event_refused h
  case transactionTimeout cut scl sda =>
    simp only [Machine.exec, execTransactionTimeout] at h
    split at h
    · exact hs.event (fun _ => hs.timeOut _ cut _ scl sda) h
    · exact hs.event_refused h
  case foreignStart | stopSeen => exact hs.event (fun _ => hs.foreignCondition _) h
  case deadlineExpiry q n =>
    simp only [Machine.exec, execDeadlineExpiry] at h
    split at h
    · exact hs.event (fun _ => (hs.of_samePorts (s.setQueue_samePorts _)).finish q _ _) h
    · exact hs.event_refused h
  case brokerTimeTick => exact hs.event (fun _ => hs.tick) h
  case brokerResetEntry =>
    cases h
    exact (State.portsWf_iff _).1 rfl
  case brokerResetRelease =>
    simp only [Machine.exec, execBrokerResetRelease] at h
    split at h <;> cases h
    · exact (State.portsWf_iff _).1 rfl
    · exact hs
  all_goals exact hs.exec_frame rfl rfl rfl h

/-- Settles O58: a step runs a command on the same ports, or idles. -/
theorem portsStayWellFormed : Obligations.PortsStayWellFormed := by
  intro s t hs h
  rw [State.portsWf_iff] at hs ⊢
  unfold step at h
  split at h
  case h_1 i rest _ => exact State.PortsOk.exec (s := s.setPending rest) (hs.of_ports rfl rfl rfl) h
  case h_2 =>
    cases h
    exact hs

end Sys2Proof.Machine

/-! The transfers of a two-wire port: a write transfer that ends or is aborted, a read of the slot, and a STOP
(R147 to R156). -/

namespace Sys2Proof.Machine

variable {s t : State}

/-! ### The data line (R147, R149) -/

theorem acksByte_iff (taken : Nat) : acksByte taken = true ↔ taken < 39 := decide_eq_true_iff

/-- In RECEIVE the acknowledge bits of the first 39 bytes are driven low, and nothing else (R149). -/
theorem Tw.sdaIn_receive {p : Tw} (h : p.target = .receive) (before bit : Nat) :
    p.sdaIn before bit = if bit = 8 ∧ before < 39 then .low else .released := by
  simp only [Tw.sdaIn, h, acksByte_iff]

/-- In SEND the bits of a byte of the frame, or of 0xFF behind it, are driven low for a 0 (R154, R156). -/
theorem Tw.sdaIn_send {p : Tw} (h : p.target = .send) {bit : Nat} (hb : bit < 8) (n : Nat) :
    p.sdaIn n bit = if (p.out.getD (p.pos + n) 0xFF#8).getLsbD (7 - bit) then .released else .low := by
  have hs : p.sdaIn n bit = if bitIsZero (p.byteAfter n) bit then .low else .released := by simp [Tw.sdaIn, h, hb]
  rw [hs, bitIsZero, Tw.byteAfter]
  cases (p.out.getD (p.pos + n) 0xFF#8).getLsbD (7 - bit) <;> rfl

/-- In SEND the acknowledge bit is left to the controller (R147). -/
theorem Tw.sdaIn_send_ack {p : Tw} (h : p.target = .send) (n : Nat) : p.sdaIn n 8 = .released := by
  simp [Tw.sdaIn, h]

/-- An event of a two-wire port alone, where the part's state admits it. -/
theorem event_setTw {port : TwPort} {possible : Bool} (hr : s.resetting = none) (hp : possible = true) (x : Tw) :
    ∃ t, event possible (s.setTw port x) s = .next t ∧ t.tw port = x ∧ t.queue = s.queue :=
  ⟨_, event_next s _ _ hr hp, by rw [State.tw_settle, State.setTw_tw], by simp⟩

/-! ### The end of a write transfer (R149, R150, R153) -/

theorem State.tw_replaceSlot (s : State) (port : TwPort) (i : Option Instr) :
    (s.replaceSlot (portOrigin port) i).tw port = (s.tw port).await i := by
  cases port <;> rfl

theorem State.tw_putReady (s : State) (port : TwPort) (f : List Byte) :
    (s.putReady (portOrigin port) f).tw port = (s.tw port).makeReady f := by
  cases port <;> rfl

/-- The answer to a slot that waits outside a hold leaves the rest of the port (R138). -/
theorem Tw.makeReady_await {p : Tw} (h : p.target ≠ .hold) (i : Option Instr) (f : List Byte) :
    ((p.await i).makeReady f) = { p with slot := .ready f, hold := none, since := none, handed := none } := if_neg h

/-- What the decoder makes of a frame leaves the receive buffer and, outside a hold, the target state. -/
theorem State.tw_decoded (s : State) (port : TwPort) (d : Decoded) (h : (s.tw port).target ≠ .hold) :
    ((s.decoded (portOrigin port) d).tw port).target = (s.tw port).target ∧
      ((s.decoded (portOrigin port) d).tw port).buffer = (s.tw port).buffer ∧
      ((s.decoded (portOrigin port) d).tw port).oversize = (s.tw port).oversize := by
  cases d with
  | refused status =>
    rw [State.decoded, State.tw_putReady, State.tw_replaceSlot, Tw.makeReady_await h]
    exact ⟨rfl, rfl, rfl⟩
  | command i =>
    rw [State.decoded, State.tw_replaceSlot]
    exact ⟨rfl, rfl, rfl⟩

/-- Only the end of a wait tells the queue anything of a frame (R153). -/
theorem State.queue_decoded (s : State) (o : Direct) (d : Decoded) :
    (s.decoded o d).queue = (s.stopWaiting o).queue := by
  cases d <;> cases o <;> rfl

/-- The bytes that a write transfer hands to the decoder: what it answers (R150). -/
def writeDecoded (port : TwPort) (bytes : List Byte) : Decoded :=
  decodeFrame (portOrigin port) (bytes.take 39) false (decide (39 < bytes.length)) true

/-- The port once a write transfer has ended, before the slot takes anything of it (R149, R150). -/
def State.transferEnded (s : State) (port : TwPort) (bytes : List Byte) (c : Cond) : State :=
  s.setTw port (((s.tw port).received bytes).goTo (condTarget c))

theorem State.endWrite_nil (s : State) (port : TwPort) (c : Cond) :
    s.endWrite port [] c = s.transferEnded port [] c := rfl

theorem State.endWrite_bytes (s : State) (port : TwPort) {bytes : List Byte} (h : bytes ≠ []) (c : Cond) :
    s.endWrite port bytes c =
      (s.transferEnded port bytes c).decoded (portOrigin port) (writeDecoded port bytes) := if_neg h

theorem State.transferEnded_port (s : State) (port : TwPort) (bytes : List Byte) (c : Cond) :
    (s.transferEnded port bytes c).tw port = ((s.tw port).received bytes).goTo (condTarget c) := s.setTw_tw port _

/-- The target state, the receive buffer and the oversize mark after the transfer, whatever it handed over. -/
theorem State.endWrite_port (s : State) (port : TwPort) (bytes : List Byte) (c : Cond) :
    ((s.endWrite port bytes c).tw port).target = condTarget c ∧
      ((s.endWrite port bytes c).tw port).buffer = bytes.take 39 ∧
      ((s.endWrite port bytes c).tw port).oversize = decide (39 < bytes.length) := by
  have hp := s.transferEnded_port port bytes c
  by_cases hb : bytes = []
  · subst hb
    rw [State.endWrite_nil, hp]
    exact ⟨rfl, rfl, rfl⟩
  · have ht : ((s.transferEnded port bytes c).tw port).target ≠ .hold := by rw [hp]; cases c <;> nofun
    rw [State.endWrite_bytes s port hb]
    obtain ⟨htarget, hbuffer, hover⟩ := State.tw_decoded _ port (writeDecoded port bytes) ht
    rw [htarget, hbuffer, hover, hp]
    exact ⟨rfl, rfl, rfl⟩

/-- A frame decoded to a command waits for the command's owner; another is answered with the refusal (R138, R139). -/
theorem State.slot_decoded (s : State) (port : TwPort) (d : Decoded) :
    (∀ i, d = .command i → ((s.decoded (portOrigin port) d).tw port).slot = .waiting ∧
      ((s.decoded (portOrigin port) d).tw port).handed = some i) ∧
    ∀ st, d = .refused st → (s.decoded (portOrigin port) d).answered (portOrigin port) st [] := by
  refine ⟨fun i h => ?_, fun st h => ?_⟩ <;> subst h
  · rw [State.decoded, State.tw_replaceSlot]
    exact ⟨rfl, rfl⟩
  · exact State.answered_putReady _ _ _

/-- The queue is told of the end of a wait: the origin's ticket of that number, QUEUED or ACTIVE, is no longer waited on
(R153). -/
theorem State.unwaited_of_queue {o : Direct} {n limit : Nat} (hs : s.slotOf o = .onTicket n limit)
    (hq : t.queue = (s.stopWaiting o).queue) :
    t.queuedOf (directOrigin o) = (s.queuedOf (directOrigin o)).map (fun k =>
        if k.number = n then { k with waited := false } else k) ∧
      ∀ k, s.queue.active = some k → k.origin = directOrigin o → k.number = n →
        t.queue.active = some { k with waited := false } := by
  obtain ⟨-, hqueued, hactive⟩ := State.holdExpires_effect hs
  have ht : t.queue = (s.holdExpires o n).settle.queue := hq.trans (by simp [State.holdExpires])
  rw [State.queuedOf] at hqueued
  rw [State.queuedOf, ht]
  exact ⟨hqueued, hactive⟩

theorem exec_writeTransferEnd {port : TwPort} {bytes : List Byte} (hr : s.resetting = none)
    (ht : (s.tw port).target = .receive) (hb : bytes = [] ∨ (s.tw port).handed = none) (c : Cond) :
    exec (.writeTransferEnd port bytes c) s = .next (s.endWrite port bytes c).settle :=
  event_next s _ _ hr (by simp [ht, hb])

/-- Settles O32: an empty transfer ends in the target state alone; another hands its bytes to the decoder. -/
theorem writeTransferHandsFrame : Obligations.WriteTransferHandsFrame := by
  intro port bytes c s hr ht hh
  refine ⟨Tw.sdaIn_receive ht, _, exec_writeTransferEnd hr ht hh c, ?_⟩
  rw [State.tw_settle]
  obtain ⟨htarget, hbuffer, hover⟩ := s.endWrite_port port bytes c
  refine ⟨htarget.trans (by cases c <;> rfl), hbuffer, hover, fun hb => ?_, fun hb => ?_⟩
  · subst hb
    rw [State.endWrite_nil, State.transferEnded_port]
    exact ⟨rfl, rfl, by simp [State.transferEnded]⟩
  · rw [State.endWrite_bytes s port hb]
    have hslot := s.transferEnded_port port bytes c
    generalize hu : s.transferEnded port bytes c = u at hslot ⊢
    have huq : u.queue = s.queue := by rw [← hu]; simp [State.transferEnded]
    obtain ⟨hcommand, hrefused⟩ := u.slot_decoded port (writeDecoded port bytes)
    refine ⟨hcommand, fun st hst => ?_, fun n limit hs => ?_⟩
    · rw [State.answered, State.slotOf_settle]
      exact hrefused st hst
    · have hwait : u.slotOf (portOrigin port) = .onTicket n limit := by
        rw [State.slotOf_portOrigin, hslot]
        exact hs
      have h := State.unwaited_of_queue (t := (u.decoded (portOrigin port) (writeDecoded port bytes)).settle) hwait
        (u.queue_decoded _ _)
      simpa only [State.queuedOf, huq] using h

/-! ### A transfer that is aborted, and a STOP (R148, R151) -/

theorem Tw.takesStop_of_target {p : Tw} (h : p.target = .ignore ∨ p.target = .address ∨
    (p.target = .send ∧ p.slot = .empty)) : p.takesStop = true := by
  rcases h with h | h | ⟨h, hs⟩ <;> simp [Tw.takesStop, *]

/-- Settles O33: both leave the target state alone, and the abort empties the receive buffer. -/
theorem abortedTransfersLeaveSlot : Obligations.AbortedTransfersLeaveSlot := by
  refine ⟨fun port c s hr ht => ?_, fun port s hr ht => ?_⟩
  · obtain ⟨t, hx, hp, hq⟩ := event_setTw hr (decide_eq_true ht) ((s.tw port).abortWrite c)
    refine ⟨t, hx, ?_⟩
    rw [hp]
    exact ⟨rfl, rfl, rfl, rfl, hq, by cases c <;> rfl⟩
  · obtain ⟨t, hx, hp, -⟩ := event_setTw hr (Tw.takesStop_of_target ht) ((s.tw port).goTo .idle)
    refine ⟨t, hx, ?_⟩
    rw [hp]
    exact ⟨rfl, rfl⟩

/-! ### A read of the slot (R154 to R156) -/

/-- After the check byte an ACK goes on with 0xFF, a NACK leads to IGNORE (R154). -/
theorem Tw.afterCheckByte_effect {p : Tw} (h : p.target = .send) (ack : Bool) :
    (p.afterCheckByte ack).slot = p.slot ∧ (p.afterCheckByte ack).target = (if ack then .send else .ignore) ∧
      (ack = true → (p.afterCheckByte ack).nextByte = 0xFF#8) := by
  cases ack with
  | false => exact ⟨rfl, rfl, nofun⟩
  | true => exact ⟨rfl, h, fun _ => by simp [Tw.afterCheckByte, Tw.nextByte, Tw.byteAfter]⟩

/-- Settles O34: the slot and the target state by how the read ends, and the data line in it. -/
theorem readsOfSlot : Obligations.ReadsOfSlot := by
  refine ⟨fun port ack f s hr ht hs => ?_, fun port how s hr ht => ?_, fun port ack s hr ht hs hpos hout => ?_,
    fun p n bit ht => ⟨Tw.sdaIn_send_ack ht n, fun hb => Tw.sdaIn_send ht hb n⟩⟩
  · obtain ⟨t, hx, hp, -⟩ := event_setTw (possible := (s.tw port).target = .send && (s.tw port).slot.isReady) hr
      (by simp [ht, hs, Slot.isReady]) ((s.tw port).responseRead ack)
    obtain ⟨-, htarget, hnext⟩ := Tw.afterCheckByte_effect ht ack
    refine ⟨t, hx, ?_⟩
    rw [hp]
    exact ⟨rfl, htarget, hnext⟩
  · obtain ⟨t, hx, hp, -⟩ := event_setTw hr (decide_eq_true ht) ((s.tw port).goTo (readEndTarget how))
    refine ⟨t, hx, ?_⟩
    rw [hp]
    exact ⟨rfl, rfl, by cases how <;> rfl⟩
  · obtain ⟨t, hx, hp, -⟩ := event_setTw (possible := (s.tw port).sendsNoRequest) hr
      (by simp [Tw.sendsNoRequest, ht, hs, hpos]) ((s.tw port).afterCheckByte ack)
    obtain ⟨hslot, htarget, hnext⟩ := Tw.afterCheckByte_effect ht ack
    refine ⟨t, hx, ?_⟩
    rw [hp]
    exact ⟨hslot.trans hs, htarget, hnext, hout⟩

end Sys2Proof.Machine

/-! Port C: a block that begins and a block that ends (R162 to R172). -/

namespace Sys2Proof.Machine

variable {s : State}

/-! ### C-DO and C-READY (R162, R166, R167, R172) -/

theorem PortC.doIn_between {p : PortC} (h : p.inBlock = false) (k bit : Nat) : p.doIn k bit = .high := by
  simp [PortC.doIn, h]

/-- In a block C-DO carries the bits of each byte, most significant first (R162). -/
theorem PortC.doIn_block {p : PortC} (h : p.inBlock = true) (k bit : Nat) :
    p.doIn k bit = if (p.sentByte k).getLsbD (7 - bit) then .high else .low := by
  rw [PortC.doIn, bitIsZero]
  cases (p.sentByte k).getLsbD (7 - bit) <;> simp [h]

theorem PortC.ready_in_block {p : PortC} (h : p.inBlock = true) : p.ready = .low := by
  simp [PortC.ready, h]

/-- Behind the lead byte go the output frame and then 0xFF (R167). -/
theorem PortC.sentByte_frame {p : PortC} {f : List Byte} (h : p.out = some f) (k : Nat) :
    p.sentByte (k + 1) = f.getD k 0xFF#8 := by
  simp only [PortC.sentByte, h]

/-- With no output frame the lead byte goes through to the end of the block (R170, R171). -/
theorem PortC.sentByte_repeats {p : PortC} (h : p.out = none) (k : Nat) : p.sentByte k = p.lead.getD 0xFF#8 := by
  cases k <;> simp only [PortC.sentByte, h]

/-- Every lead byte of Table 9.2 has its most significant bit set. -/
theorem PortC.leadByte_msb (p : PortC) : p.leadByte.getLsbD 7 = true := by
  unfold PortC.leadByte
  split
  case h_1 => split_ifs <;> rfl
  all_goals rfl

/-- Outside a broker reset both outputs of Port C are set anew from the port (R162, R172). -/
theorem State.settle_cPins (hr : s.resetting = none) :
    s.settle.pins.cReady = s.portC.ready ∧ s.settle.pins.cDo = s.portC.doLevel := by
  simp [State.outputs, hr]

/-! ### The start of a block (R163, R166, R169) -/

section
variable {p : PortC} (gap : Nat)

/-- The counts of a block that begins, and the pins in it. -/
theorem PortC.beginBlock_effect (p : PortC) :
    (p.beginBlock gap).inBlock = true ∧ (p.beginBlock gap).gap = some gap ∧ (p.beginBlock gap).buffer = [] ∧
      (p.beginBlock gap).bytes = 0 ∧ (p.beginBlock gap).bits = 0 ∧ (p.beginBlock gap).ready = .low ∧
      (p.beginBlock gap).doLevel = .high := by
  refine ⟨rfl, rfl, rfl, rfl, rfl, PortC.ready_in_block rfl, ?_⟩
  calc (p.beginBlock gap).doLevel
      _ = (p.beginBlock gap).doIn 0 0 := rfl
      _ = if p.leadByte.getLsbD 7 then .high else .low := PortC.doIn_block rfl 0 0
      _ = .high := if_pos p.leadByte_msb

/-- A READY response is given out behind its lead byte, and leaves the slot EMPTY (R167, R169). -/
theorem PortC.beginBlock_ready {f : List Byte} (h : p.slot = .ready f) :
    (p.beginBlock gap).slot = .empty ∧ (p.beginBlock gap).discarded = false ∧
      (p.beginBlock gap).sentByte 0 = (if p.discarded then 0xA4#8 else 0xA5#8) ∧
      ∀ k, (p.beginBlock gap).sentByte (k + 1) = f.getD k 0xFF#8 := by
  have hg : p.giveOut = { p with out := some f, slot := .empty, discarded := false } := by simp only [PortC.giveOut, h]
  refine ⟨congrArg PortC.slot hg, congrArg PortC.discarded hg, ?_, PortC.sentByte_frame (congrArg PortC.out hg)⟩
  calc (p.beginBlock gap).sentByte 0
      _ = p.leadByte := rfl
      _ = if p.discarded then 0xA4#8 else 0xA5#8 := by simp only [PortC.leadByte, h]

/-- With no response to give, the lead byte goes through and the slot stays (R170, R171). -/
theorem PortC.beginBlock_unready (h : ∀ f, p.slot ≠ .ready f) :
    (p.beginBlock gap).slot = p.slot ∧ ∀ k, (p.beginBlock gap).sentByte k = p.leadByte := by
  have hg : p.giveOut = { p with out := none } := by
    unfold PortC.giveOut
    split
    case h_1 f hs => exact absurd hs (h f)
    all_goals rfl
  have hslot : p.giveOut.slot = p.slot := by rw [hg]
  have hout : p.giveOut.out = none := congrArg PortC.out hg
  exact ⟨hslot, PortC.sentByte_repeats hout⟩

theorem PortC.beginBlock_waiting (h : p.slot = .waiting ∨ ∃ n limit, p.slot = .onTicket n limit) :
    (p.beginBlock gap).slot = p.slot ∧ ∀ k, (p.beginBlock gap).sentByte k = 0xFE#8 := by
  have hlead : p.leadByte = 0xFE#8 := by rcases h with h | ⟨n, limit, h⟩ <;> simp only [PortC.leadByte, h]
  rw [← hlead]
  exact PortC.beginBlock_unready gap fun f hs => by rcases h with h | ⟨n, limit, h⟩ <;> cases h.symm.trans hs

theorem PortC.beginBlock_empty (h : p.slot = .empty) :
    (p.beginBlock gap).slot = .empty ∧ ∀ k, (p.beginBlock gap).sentByte k = 0xFF#8 := by
  have hlead : p.leadByte = 0xFF#8 := by simp only [PortC.leadByte, h]
  obtain ⟨hslot, hsent⟩ := PortC.beginBlock_unready gap fun f hs => by cases h.symm.trans hs
  exact ⟨hslot.trans h, fun k => (hsent k).trans hlead⟩

end

theorem exec_blockStart (hr : s.resetting = none) (hb : s.portC.inBlock = false) :
    exec .blockStart s = .next (s.setPortC (s.portC.beginBlock s.settings.gap.toNat)).settle :=
  event_next s _ _ hr (by simp [hb])

/-- Settles O36: the slot decides the lead byte and what goes behind it, and the pins read the port. -/
theorem blockStartChoosesLead : Obligations.BlockStartChoosesLead := by
  intro s hr hb
  refine ⟨_, exec_blockStart hr hb, ?_⟩
  obtain ⟨hready, hdo⟩ :=
    State.settle_cPins (s := s.setPortC (s.portC.beginBlock s.settings.gap.toNat)) (by simpa using hr)
  rw [hready, hdo]
  simp only [State.settle_fields, State.setPortC_fields]
  obtain ⟨hin, hgap, hbuffer, hbytes, hbits, hlow, hhigh⟩ := s.portC.beginBlock_effect s.settings.gap.toNat
  exact ⟨hin, hgap, hbuffer, hbytes, hbits, hlow, hhigh,
    fun k bit => ⟨PortC.doIn_between hb k bit, fun _ => PortC.doIn_block hin k bit⟩,
    fun _ hs => PortC.beginBlock_ready _ hs, PortC.beginBlock_waiting _, PortC.beginBlock_empty _⟩

/-! ### The request of a block (R165) -/

/-- A frame that fills its length and no more is read alike from every port (R137). -/
theorem decodeFrame_exact {bytes : List Byte} (h : bytes.length ≤ (bytes.getD 1 0#8).toNat + 3) (o : Direct)
    (cut oversize exact : Bool) : decodeFrame o bytes cut oversize exact = decodeFrame o bytes cut oversize false := by
  have hlen : lengthRight bytes cut oversize exact = lengthRight bytes cut oversize false := by
    rw [Bool.eq_iff_iff, lengthRight_iff, lengthRight_iff]
    simp only [h, implies_true]
  simp only [decodeFrame, hlen]

/-- A request that was cut short is answered BAD_LENGTH (R137, R165). -/
theorem decodeFrame_cut (o : Direct) (bytes : List Byte) (oversize exact : Bool) :
    decodeFrame o bytes true oversize exact = .refused .badLength := by
  refine decodeFrame_of_length (fun h => ?_) o
  obtain ⟨-, -, -, hcut, -, -⟩ := (lengthRight_iff ..).1 h
  cases hcut

/-- What the decoder makes of the request of a block's complete bytes (R165). A block without one hands nothing over, so
that case is never reached; it reads no bytes. -/
def blockDecoded (bytes : List Byte) : Decoded :=
  match requestOf (bytes.take Config.maxBuffer) bytes.length with
  | none => decodeFrame .c [] false false false
  | some (frame, cut) => decodeFrame .c frame cut false false

theorem blockDecoded_one (b : Byte) : blockDecoded [b] = .refused .badLength := decodeFrame_cut .c [b] false false

section
variable {b l : Byte} {rest : List Byte}

/-- The bytes kept of a block of two bytes or more begin as the block does (R164). -/
theorem take_maxBuffer_cons : (b :: l :: rest).take Config.maxBuffer = b :: l :: rest.take 37 := rfl

theorem blockDecoded_long (h : 36 < l.toNat) : blockDecoded (b :: l :: rest) = .refused .badLength := by
  rw [blockDecoded, take_maxBuffer_cons]
  simp only [requestOf, if_pos h]
  exact decodeFrame_of_length (by simp [lengthRight]) .c

theorem blockDecoded_short (hl : l.toNat ≤ 36) (h : (b :: l :: rest).length < l.toNat + 3) :
    blockDecoded (b :: l :: rest) = .refused .badLength := by
  rw [blockDecoded, take_maxBuffer_cons]
  simp only [requestOf, if_neg hl.not_gt, if_neg h.not_ge]
  exact decodeFrame_cut ..

/-- A whole frame is among the bytes kept, and what follows it is filler (R165). -/
theorem blockDecoded_whole (hl : l.toNat ≤ 36) (h : l.toNat + 3 ≤ (b :: l :: rest).length) :
    blockDecoded (b :: l :: rest) = decodeFrame .c ((b :: l :: rest).take (l.toNat + 3)) false false true := by
  have hkept : ((b :: l :: rest).take Config.maxBuffer).take (l.toNat + 3) = (b :: l :: rest).take (l.toNat + 3) := by
    rw [List.take_take, Nat.min_eq_left (show l.toNat + 3 ≤ Config.maxBuffer from Nat.add_le_add_right hl 3)]
  have hexact : ((b :: l :: rest).take (l.toNat + 3)).length ≤
      (((b :: l :: rest).take (l.toNat + 3)).getD 1 0#8).toNat + 3 := List.length_take_le _ _
  rw [decodeFrame_exact hexact, blockDecoded, ← hkept, take_maxBuffer_cons]
  simp only [requestOf, if_neg hl.not_gt, if_pos h]

end

/-! ### The end of a block (R163, R165, R169 to R171) -/

/-- Port C is between blocks, before anything is made of the bytes taken (R163, R164). -/
def State.blockOver (s : State) (bytes : List Byte) : State := s.setPortC (s.portC.took bytes).between

theorem State.blockOver_portC (s : State) (bytes : List Byte) :
    (s.blockOver bytes).portC = (s.portC.took bytes).between := rfl

theorem State.endBlock_nil (s : State) : s.endBlock [] = s.blockOver [] := rfl

/-- A block with a complete byte holds a request (R165). -/
theorem PortC.took_request (p : PortC) {bytes : List Byte} (h : bytes ≠ []) :
    ∃ frame cut, requestOf (p.took bytes).buffer (p.took bytes).bytes = some (frame, cut) := by
  unfold requestOf
  split
  case h_1 hnil =>
    rcases List.take_eq_nil_iff.1 hnil with h0 | hb
    · cases h0
    · exact absurd hb h
  case h_2 => exact ⟨_, _, rfl⟩
  case h_3 => split_ifs <;> exact ⟨_, _, rfl⟩

theorem PortC.beganWaiting_iff (p : PortC) : p.beganWaiting = true ↔ p.lead = some 0xFE#8 := decide_eq_true_iff

/-- A block with a complete byte that began with the slot WAITING is discarded (R170). -/
theorem State.endBlock_discards (s : State) {bytes : List Byte} (h : bytes ≠ [])
    (hw : s.portC.lead = some 0xFE#8) : s.endBlock bytes =
      (s.blockOver bytes).setPortC { (s.blockOver bytes).portC with discarded := true } := by
  obtain ⟨frame, cut, hreq⟩ := s.portC.took_request h
  simp only [State.endBlock, State.takeRequest, hreq]
  exact if_pos ((PortC.beganWaiting_iff _).2 hw)

/-- A block with a complete byte that began with the slot not WAITING hands its request to the decoder (R165). -/
theorem State.endBlock_takes (s : State) {bytes : List Byte} (h : bytes ≠ [])
    (hw : s.portC.lead ≠ some 0xFE#8) :
    s.endBlock bytes = (s.blockOver bytes).decoded .c (blockDecoded bytes) := by
  obtain ⟨frame, cut, hreq⟩ := s.portC.took_request h
  have hdec : blockDecoded bytes = decodeFrame .c frame cut false false := by
    have hkept : requestOf (bytes.take Config.maxBuffer) bytes.length = some (frame, cut) := hreq
    simp only [blockDecoded, hkept]
  rw [hdec]
  simp only [State.endBlock, State.takeRequest, hreq]
  exact if_neg ((PortC.beganWaiting_iff _).not.2 hw)

/-- What the decoder makes of a request leaves the block's counts and the output frame (R168). -/
theorem State.block_decoded (s : State) (d : Decoded) :
    (s.decoded .c d).portC.inBlock = s.portC.inBlock ∧ (s.decoded .c d).portC.bytes = s.portC.bytes ∧
      (s.decoded .c d).portC.out = s.portC.out := by
  cases d <;> exact ⟨rfl, rfl, rfl⟩

/-- The block's counts once it has ended, whatever becomes of its request (R163). -/
theorem State.endBlock_block (s : State) (bytes : List Byte) :
    (s.endBlock bytes).portC.inBlock = false ∧ (s.endBlock bytes).portC.bytes = bytes.length ∧
      (s.endBlock bytes).portC.out = none := by
  by_cases hb : bytes = []
  · subst hb
    exact ⟨rfl, rfl, rfl⟩
  · by_cases hw : s.portC.lead = some 0xFE#8
    · rw [s.endBlock_discards hb hw]
      exact ⟨rfl, rfl, rfl⟩
    · rw [s.endBlock_takes hb hw]
      exact State.block_decoded _ _

/-- A request that decodes to a command waits for the command's owner; another is answered with the refusal (R138, R139,
R168). -/
theorem State.endBlock_answer (s : State) {bytes : List Byte} (h : bytes ≠ []) (hw : s.portC.lead ≠ some 0xFE#8) :
    (∀ i, blockDecoded bytes = .command i →
      (s.endBlock bytes).portC.slot = .waiting ∧ (s.endBlock bytes).portC.handed = some i) ∧
      ∀ st, blockDecoded bytes = .refused st → (s.endBlock bytes).answered .c st [] := by
  rw [s.endBlock_takes h hw]
  refine ⟨fun i hd => ?_, fun st hd => ?_⟩ <;> rw [hd]
  · exact ⟨rfl, rfl⟩
  · exact State.answered_putReady (s := (s.blockOver bytes).replaceSlot .c none) .c (responseFrame st [])

theorem State.answered_settle (s : State) (o : Direct) (status : Status) (payload : List Byte) :
    s.settle.answered o status payload ↔ s.answered o status payload := by
  rw [State.answered, State.slotOf_settle, State.answered]

theorem exec_blockEnd {bytes : List Byte} {bits : Nat} (hr : s.resetting = none) (hb : s.portC.inBlock = true)
    (hbits : bits < 8) (hh : bytes = [] ∨ s.portC.handed = none) :
    exec (.blockEnd bytes bits) s = .next (s.endBlock bytes).settle :=
  event_next s _ _ hr (by simp [hb, hbits, hh])

/-- The end of a block with a complete byte waits for the owner of the command of the block before (log 42). -/
theorem exec_blockEnd_of_handed {bytes : List Byte} (hb : bytes ≠ []) (hh : s.portC.handed ≠ none) (bits : Nat) :
    exec (.blockEnd bytes bits) s = .next s := by
  rcases event_cases s (s.portC.inBlock && bits < 8 && (bytes.isEmpty || s.portC.handed.isNone)) (s.endBlock bytes)
    with ⟨-, hp, -⟩ | he
  · simp [hb, hh] at hp
  · exact he

/-- Settles O37: the block's counts and C-DO however it ends; the lead byte decides between discarding the request and
handing it over, and the case of R165 what the decoder makes of it. -/
theorem blockEndTakesOrDiscards : Obligations.BlockEndTakesOrDiscards := by
  refine ⟨fun bytes bits s hb hh => exec_blockEnd_of_handed hb hh bits, fun bytes bits s hr hin hbits hh => ?_⟩
  refine ⟨_, exec_blockEnd hr hin hbits hh, ?_⟩
  obtain ⟨hover, hcount, hout⟩ := s.endBlock_block bytes
  have hreset : (s.endBlock bytes).resetting = none := (s.endBlock_same (p := .reset) bytes nofun nofun).1.trans hr
  obtain ⟨-, hdo⟩ := State.settle_cPins hreset
  rw [hdo]
  simp only [State.settle_fields, State.answered_settle]
  refine ⟨hover, hcount, hout, PortC.doIn_between hover _ _, fun hb => ?_, fun hb hw => ?_, fun hw l rest b => ?_⟩
  · subst hb
    exact ⟨rfl, rfl⟩
  · rw [s.endBlock_discards hb hw]
    exact ⟨rfl, rfl, rfl, rfl⟩
  · have hanswer := fun hb : bytes ≠ [] => s.endBlock_answer hb hw
    refine ⟨fun hb => ?_, fun hb hl => ?_, fun hb hl hn => ?_, fun hb hl hn => ?_⟩ <;> subst hb
    · exact (hanswer nofun).2 _ (blockDecoded_one b)
    · exact (hanswer nofun).2 _ (blockDecoded_long hl)
    · exact (hanswer nofun).2 _ (blockDecoded_short hl hn)
    · rw [← blockDecoded_whole hl hn]
      exact hanswer nofun

end Sys2Proof.Machine

/-! The settings, read and written (R176 to R181), and STATUS (R182). -/

namespace Sys2Proof.Machine

variable {s t : State} {n : Nat} {v : Field}

/-! ### The settings by number (R176, R177) -/

/-- A number up to 12 names a setting, and no other does. -/
theorem Settings.get_eq_none_iff (x : Settings) : x.get n = none ↔ 12 < n := by
  rcases Nat.lt_or_ge 12 n with hn | hn
  · obtain ⟨k, rfl⟩ := Nat.exists_eq_add_of_le' hn
    exact ⟨fun _ => hn, fun _ => rfl⟩
  · interval_cases n <;> simp [Settings.get]

theorem Settings.get_set (x : Settings) (hn : n ≤ 12) (v : Field) : (x.set n v).get n = some v := by
  interval_cases n <;> rfl

theorem Settings.get_set_of_ne (x : Settings) (hn : n ≤ 12) (v : Field) {m : Nat} (hm : m ≠ n) :
    (x.set n v).get m = x.get m := by
  interval_cases n <;> (unfold Settings.get; split <;> trivial)

/-- The value already stored, stored again. -/
theorem Settings.set_get (x : Settings) (h : x.get n = some v) : x.set n v = x := by
  have hn : n ≤ 12 := by
    by_contra hc
    rw [x.get_eq_none_iff.2 (by omega)] at h
    cases h
  interval_cases n <;> (cases h; rfl)

/-- Settles O26: the answer goes by whether the number names a setting. -/
theorem settingReadAnswersValue : Obligations.SettingReadAnswersValue := by
  refine ⟨fun o n s hh => ?_, fun x n v hn => ⟨x.get_set hn v, fun m hm => x.get_set_of_ne hn v hm⟩⟩
  let act : State → State × Reply := fun u => (u, u.settings.readReply n.toNat)
  refine ⟨_, command_hands s o _ act hh, s.carryOut_quiet o act rfl, fun hn => ?_, fun hn => ?_⟩
  · refine s.answered_carryOut o act _ _ ?_
    simp only [act, Settings.readReply, (Settings.get_eq_none_iff _).2 hn, refuse]
  · obtain ⟨v, hv⟩ := Option.ne_none_iff_exists'.1 fun hc => Nat.not_lt.2 hn (s.settings.get_eq_none_iff.1 hc)
    refine ⟨v, hv, s.answered_carryOut o act _ _ ?_⟩
    simp only [act, Settings.readReply, hv]
    rfl

/-- Settles O28: the payload is read from the state, field by field in the order of Table 11.7. -/
theorem statusReportsState : Obligations.StatusReportsState := by
  intro o s hh
  let act : State → State × Reply := fun u => (u, .answer .ok (u.statusPayload o))
  have hcause : causeCode s.cause = if s.cause = .powerOn then 1#8 else 2#8 := by cases s.cause <;> rfl
  have hdefined : s.definedEntries = (s.mirror.filter Option.isSome).length := List.countP_eq_length_filter
  refine ⟨_, command_hands s o _ act hh, s.carryOut_quiet o act rfl, ?_⟩
  rw [← hcause, ← hdefined]
  exact s.answered_carryOut o act _ _ rfl

/-! ### The ranges of Table 10.1 -/

theorem between_iff {lo hi : Nat} : between lo hi n = true ↔ lo ≤ n ∧ n ≤ hi := by
  simp [between]

theorem bytesBetween3_iff {lo hi : Nat} : bytesBetween3 lo hi v = true ↔
    ∀ k < 3, lo ≤ (fieldByte v k).toNat ∧ (fieldByte v k).toNat ≤ hi := by
  simp only [bytesBetween3, Bool.and_eq_true, between_iff]
  constructor
  · rintro ⟨⟨h0, h1⟩, h2⟩ k hk
    interval_cases k <;> assumption
  · exact fun h => ⟨⟨h 0 (by omega), h 1 (by omega)⟩, h 2 (by omega)⟩

theorem bytesBetween4_iff {lo hi : Nat} : bytesBetween4 lo hi v = true ↔
    ∀ k < 4, lo ≤ (fieldByte v k).toNat ∧ (fieldByte v k).toNat ≤ hi := by
  rw [bytesBetween4, Bool.and_eq_true, bytesBetween3_iff, between_iff]
  exact Nat.forall_lt_succ_right.symm

/-- The ranges, setting by setting. -/
theorem settingInRange_iff (n : Nat) (v : Field) : settingInRange n v = true ↔
    (if n = 0 then v.toNat = 100 ∨ v.toNat = 400 else if n = 1 then 1 ≤ v.toNat ∧ v.toNat ≤ 50
      else if n = 2 then 5 ≤ v.toNat ∧ v.toNat ≤ 200 else if n = 3 then v.toNat ≤ 7
      else if n = 4 then 1 ≤ v.toNat ∧ v.toNat ≤ 50 else if n = 5 then 10 ≤ v.toNat ∧ v.toNat ≤ 500
      else if n = 6 then 50 ≤ v.toNat ∧ v.toNat ≤ 2000 else if n = 7 then 1 ≤ v.toNat ∧ v.toNat ≤ 255
      else if n = 8 then ∀ k < 4, 1 ≤ (fieldByte v k).toNat ∧ (fieldByte v k).toNat ≤ 16
      else if n = 9 then ∀ k < 4, 1 ≤ (fieldByte v k).toNat ∧ (fieldByte v k).toNat ≤ 4
      else if n = 10 then (∀ k < 3, 1 ≤ (fieldByte v k).toNat ∧ (fieldByte v k).toNat ≤ 50) ∧ fieldByte v 3 = 0#8
      else if n = 11 then (∀ k < 3, (fieldByte v k).toNat ≤ 1) ∧ fieldByte v 3 = 0#8
      else if n = 12 then 2 ≤ v.toNat ∧ v.toNat ≤ 255 else False : Prop) := by
  unfold settingInRange
  split
  case h_1 => simp [← BitVec.toNat_inj]
  case h_14 => simp_all
  all_goals simp [between_iff, bytesBetween3_iff, bytesBetween4_iff]

end Sys2Proof.Machine

/-! A SETTING WRITE that passes its checks (R179 to R181). -/

namespace Sys2Proof.Machine

variable {s u : State} {o : Direct} {n : Nat} {v : Field} {before : Settings}

/-! ### The value stored, and the other origins told (R180) -/

/-- The part once the value is stored and the other two origins are told of a change. -/
def State.settingTold (s : State) (o : Direct) (n : Nat) (v : Field) : State :=
  (s.setSettings (s.settings.set n v)).tellSetting o n (s.settings.get n ≠ some v)

theorem State.writeSetting_eq (s : State) (o : Direct) (n : Nat) (v : Field) : s.writeSetting o n v =
    ((s.settingTold o n v).quotaWritten n s.settings).idleDetectWritten n s.settings := rfl

theorem State.settingTold_frame (s : State) (o : Direct) (n : Nat) (v : Field) :
    (s.settingTold o n v).settings = s.settings.set n v ∧ (s.settingTold o n v).time = s.time ∧
      (s.settingTold o n v).queue = s.queue ∧ (s.settingTold o n v).engine = s.engine ∧
      (s.settingTold o n v).monitor = s.monitor ∧ (s.settingTold o n v).mirror = s.mirror ∧
      (s.settingTold o n v).dueMarks = s.dueMarks := by
  unfold State.settingTold State.tellSetting
  split_ifs <;> simp

/-- A change is told to every origin but the writer. -/
theorem State.recOf_settingTold (s : State) (o : Direct) (n : Nat) (v : Field) (q : Direct) :
    (s.settingTold o n v).recOf q =
      if q ≠ o ∧ s.settings.get n ≠ some v then (s.recOf q).arrive .settingChanged (.setting n) [] s.time
      else s.recOf q := by
  have hmeant : (othersThan o).get q = true ↔ q ≠ o := by
    cases o <;> cases q <;> simp [othersThan, PerDirect.set, PerDirect.get]
  have hrec : (s.setSettings (s.settings.set n v)).recOf q = s.recOf q := State.recOf_congr (by simp) q
  by_cases h : s.settings.get n = some v
  · simp [State.settingTold, State.tellSetting, h, hrec]
  · simp [State.settingTold, State.tellSetting, h, State.recOf_notifyEach, hmeant, hrec]

/-! ### P's quota and the idle-detect time (R181) -/

theorem State.quotaWritten_frame (u : State) (n : Nat) (before : Settings) :
    (u.quotaWritten n before).settings = u.settings ∧ (u.quotaWritten n before).engine = u.engine ∧
      (u.quotaWritten n before).monitor = u.monitor ∧ (u.quotaWritten n before).records = u.records := by
  unfold State.quotaWritten
  split_ifs <;> simp

theorem State.quotaWritten_changed (h : u.settings.quota .p ≠ before.quota .p) :
    u.quotaWritten 8 before = u.retryPosts := if_pos ⟨rfl, h⟩

theorem State.quotaWritten_other (h : n ≠ 8 ∨ u.settings.quota .p = before.quota .p) :
    u.quotaWritten n before = u := if_neg fun hc => h.elim (absurd hc.1) (fun hq => hc.2 hq)

theorem State.idleDetectWritten_frame (u : State) (n : Nat) (before : Settings) :
    (u.idleDetectWritten n before).settings = u.settings ∧ (u.idleDetectWritten n before).queue = u.queue ∧
      (u.idleDetectWritten n before).mirror = u.mirror ∧ (u.idleDetectWritten n before).dueMarks = u.dueMarks := by
  unfold State.idleDetectWritten
  split_ifs <;> simp

theorem State.idleDetectWritten_other
    (h : n ≠ 4 ∨ u.settings.idleDetect = before.idleDetect ∨ u.idleReached = false) :
    u.idleDetectWritten n before = u := by
  refine if_neg fun ⟨hn, hchange, hfrees⟩ => ?_
  rcases h with h | h | h
  · exact h hn
  · exact hchange h
  · simp [State.idleFrees, h] at hfrees

/-- A bus that a changed idle-detect time finds idle for long enough is FREE (R38). -/
theorem State.idleDetectWritten_reached (hc : u.settings.idleDetect ≠ before.idleDetect) (hr : u.idleReached = true)
    (hi : u.engine.state.inTransfer = false) : (u.idleDetectWritten 4 before).monitor.state = .free := by
  by_cases hm : u.monitor.state = .free
  · have hx : u.idleDetectWritten 4 before = u := if_neg fun h => by simp [State.idleFrees, hm] at h
    rw [hx, hm]
  · have hx : u.idleDetectWritten 4 before = u.becomeFree := if_pos ⟨rfl, hc, by simp [State.idleFrees, hr, hm, hi]⟩
    obtain ⟨hfree, -⟩ := u.monitorFreed_monitor
    rw [hx, State.becomeFree_change hm]
    simpa using hfree

/-! ### The whole write -/

/-- A write of the value already stored changes nothing (R180). -/
theorem State.writeSetting_stored (h : s.settings.get n = some v) : s.writeSetting o n v = s := by
  have htold : s.settingTold o n v = s := by
    simp only [State.settingTold, s.settings.set_get h, h, State.tellSetting, ne_eq, not_true_eq_false, decide_false]
    rfl
  rw [State.writeSetting_eq, htold, State.quotaWritten_other (.inr rfl),
    State.idleDetectWritten_other (.inr (.inl rfl))]

theorem State.writeSetting_settings (s : State) (o : Direct) (n : Nat) (v : Field) :
    (s.writeSetting o n v).settings = s.settings.set n v := by
  obtain ⟨hset, -⟩ := s.settingTold_frame o n v
  obtain ⟨hquota, -⟩ := (s.settingTold o n v).quotaWritten_frame n s.settings
  exact ((State.idleDetectWritten_frame _ n s.settings).1.trans hquota).trans hset

/-- Where the bus is not freed, the bus is as it was, and the records are those of the other origins told. -/
theorem State.writeSetting_bus
    (h : n ≠ 4 ∨ s.settings.idleDetect = v ∨ s.monitor.idle.any (fun k => v.toNat < k) = false) :
    (s.writeSetting o n v).monitor = s.monitor ∧ (s.writeSetting o n v).engine = s.engine ∧
      (s.writeSetting o n v).records = (s.settingTold o n v).records := by
  obtain ⟨hset, -, -, heng, hmon, -⟩ := s.settingTold_frame o n v
  obtain ⟨hset', heng', hmon', hrec'⟩ := (s.settingTold o n v).quotaWritten_frame n s.settings
  have hx : s.writeSetting o n v = (s.settingTold o n v).quotaWritten n s.settings := by
    rw [State.writeSetting_eq]
    refine State.idleDetectWritten_other ?_
    rcases eq_or_ne n 4 with rfl | hn
    · rw [State.idleReached, hset', hset, hmon', hmon]
      exact .inr ((h.resolve_left fun hc => hc rfl).imp Eq.symm id)
    · exact .inl hn
  rw [hx]
  exact ⟨hmon'.trans hmon, heng'.trans heng, hrec'⟩

/-- A changed idle-detect time that the idle count is past frees the bus (R38, R181). -/
theorem State.writeSetting_frees (hv : s.settings.idleDetect ≠ v)
    (hk : s.monitor.idle.any (fun k => v.toNat < k) = true) (hi : s.engine.state.inTransfer = false) :
    (s.writeSetting o 4 v).monitor.state = .free := by
  obtain ⟨hset, -, -, heng, hmon, -⟩ := s.settingTold_frame o 4 v
  obtain ⟨hset', heng', hmon', -⟩ := (s.settingTold o 4 v).quotaWritten_frame 4 s.settings
  rw [State.writeSetting_eq]
  refine State.idleDetectWritten_reached ?_ ?_ (by rw [heng', heng, hi])
  · rw [hset', hset]
    exact hv.symm
  · rw [State.idleReached, hset', hset, hmon', hmon]
    exact hk

/-- A changed quota of P is a retry trigger (R122, R181). -/
theorem State.writeSetting_retries (h : fieldByte v 3 ≠ fieldByte s.settings.quotas 3) :
    s.retriedTo (s.writeSetting o 8 v) := by
  obtain ⟨hset, htime, hq, -, -, hm, hd⟩ := s.settingTold_frame o 8 v
  have hx : (s.settingTold o 8 v).quotaWritten 8 s.settings = (s.settingTold o 8 v).retryPosts := by
    refine State.quotaWritten_changed ?_
    rw [hset]
    exact fun hc => h (BitVec.eq_of_toNat_eq hc)
  obtain ⟨hset', hq', hm', hd'⟩ := (s.settingTold o 8 v).retryPosts.idleDetectWritten_frame 8 s.settings
  rw [State.writeSetting_eq, hx]
  exact State.retriedTo_target (State.retriedTo_congr _ _ _ hd.symm hm.symm htime.symm
    (State.queuedOf_congr hq .p).symm (State.retryPosts_retried _)) hq' hm' hd' hset'

/-- Any other write reaches neither the queue nor the mirror. -/
theorem State.writeSetting_keeps (h : n ≠ 8 ∨ fieldByte v 3 = fieldByte s.settings.quotas 3) :
    (s.writeSetting o n v).queue = s.queue ∧ (s.writeSetting o n v).mirror = s.mirror ∧
      (s.writeSetting o n v).dueMarks = s.dueMarks := by
  obtain ⟨hset, -, hq, -, -, hm, hd⟩ := s.settingTold_frame o n v
  have hx : (s.settingTold o n v).quotaWritten n s.settings = s.settingTold o n v := by
    refine State.quotaWritten_other ?_
    rcases eq_or_ne n 8 with rfl | hn
    · rw [hset]
      exact .inr (congrArg BitVec.toNat (h.resolve_left fun hc => hc rfl))
    · exact .inl hn
  obtain ⟨-, hq', hm', hd'⟩ := (s.settingTold o n v).idleDetectWritten_frame n s.settings
  rw [State.writeSetting_eq, hx]
  exact ⟨hq'.trans hq, hm'.trans hm, hd'.trans hd⟩

/-- Settles O27: the range decides whether the value is written; what the write does goes by the setting's number and by
whether the value is a change. -/
theorem settingWriteStoresAndTells : Obligations.SettingWriteStoresAndTells := by
  refine ⟨fun o n v s hh => ?_, fun n v => propext (settingInRange_iff n v)⟩
  let act : State → State × Reply := fun u => u.settingWrite o n.toNat v
  refine ⟨_, command_hands s o _ act hh, fun hv => State.carryOut_answers (if_neg (by simp [hv])), fun hv => ?_⟩
  have hact : act s = (s.writeSetting o n.toNat v, .answer .ok []) := if_pos hv
  obtain ⟨-, hset, hq, hm, hd, hrec⟩ := State.carryOut_frame s o act
  obtain ⟨heng, hmon, -⟩ := State.carryOut_bus s o act
  rw [hact] at hset hq hm hd hrec heng hmon
  have hnumber : ∀ {k : Byte}, n ≠ k → n.toNat ≠ k.toNat := fun hn hc => hn (BitVec.eq_of_toNat_eq hc)
  refine ⟨hset.trans (State.writeSetting_settings ..), s.answered_carryOut o act _ _ (congrArg Prod.snd hact),
    fun hg => s.carryOut_quiet o act ((congrArg Prod.fst hact).trans (State.writeSetting_stored hg)), fun h => ?_,
    fun hn hc hk hi => ?_, fun hn hc => ?_, fun h => ?_⟩
  · obtain ⟨hmon', heng', hrec'⟩ := State.writeSetting_bus (o := o) (h.imp_left (hnumber (k := 4#8)))
    refine ⟨hmon.trans hmon', heng.trans heng', fun q => ?_⟩
    rw [State.recOf_congr (hrec.trans hrec'), State.recOf_settingTold]
  · subst hn
    rw [hmon]
    exact State.writeSetting_frees hc hk hi
  · subst hn
    exact State.retriedTo_target (State.writeSetting_retries hc) hq hm hd hset
  · obtain ⟨hq', hm', hd'⟩ := State.writeSetting_keeps (o := o) (h.imp_left (hnumber (k := 8#8)))
    exact ⟨hq.trans hq', hm.trans hm', hd.trans hd'⟩

end Sys2Proof.Machine

/-! The broker time (R183) and a broker reset (R187, R188). -/

namespace Sys2Proof.Machine

variable {s t : State}

/-! ### A change of the broker time (R183) -/

theorem State.queuedOf_tick (s : State) (q : Origin) :
    s.tick.queuedOf q = (s.queuedOf q).map (·.tick (s.time + 1#16)) := by
  cases q <;> rfl

/-- An entry after a change: it is older by one, up to the age that stands still, and a due time is reached that it
does not wait for already (R118, R119). -/
theorem State.entry_tick_of_some {i : Nat} {e : Entry} (he : s.entry i = some e) :
    ∃ e', s.tick.entry i = some e' ∧ e'.age = min (e.age + 1) 65535 ∧ e'.status = e.status ∧
      (s.isDue i = false → e.due = s.time + 1#16 → e'.dueReached = true) := by
  refine ⟨e.tick (s.isDue i) (s.time + 1#16), by rw [State.entry_tick, he]; rfl, rfl, rfl, fun hd ht => ?_⟩
  simp [Entry.tick, hd, ht]

/-- A change reaches a count that runs (R57). -/
theorem Count.map_tick {x : Option Count} {c : Count} (h : x = some c) :
    x.map Count.tick = some ⟨c.limit, c.changes + 1⟩ := by
  rw [h]
  rfl

/-- A change reaches a number that counts changes. -/
theorem map_succ {x : Option Nat} {n : Nat} (h : x = some n) : x.map (· + 1) = some (n + 1) := by
  rw [h]
  rfl

/-- Settles O54: each timer's owner takes the change by itself. -/
theorem tickReachesEveryTimer : Obligations.TickReachesEveryTimer := by
  intro s hr
  refine ⟨_, event_next s _ _ hr rfl, rfl, fun q => s.queuedOf_tick q, rfl, rfl, rfl, rfl, rfl, rfl, rfl,
    fun i e he => State.entry_tick_of_some he, fun c => Count.map_tick, fun c => Count.map_tick,
    fun c => Count.map_tick, fun c => Count.map_tick, fun n => map_succ, fun c => Count.map_tick,
    fun c => Count.map_tick, fun c => Count.map_tick, fun c => Count.map_tick, fun port n h => ?_,
    fun n => map_succ, rfl, rfl, rfl, rfl⟩
  cases port
  · exact map_succ h
  · exact map_succ h

/-! ### A broker reset (R187, R188) -/

theorem exec_brokerResetRelease {c : ResetCause} (hr : s.resetting = some c) (a1 a0 scl sda : Bool) :
    exec (.brokerResetRelease a1 a0 scl sda) s =
      .next (State.atRelease c (adselOf a1 a0) scl sda s.pending) := by
  simp only [exec, execBrokerResetRelease, hr]

/-- Settles O55: the entry and the release each make a state anew, of which every field is known. -/
theorem brokerResetEntryAndRelease : Obligations.BrokerResetEntryAndRelease := by
  refine ⟨fun c s => ⟨_, rfl, rfl, rfl, rfl⟩, fun c a1 a0 scl sda s hr => ?_⟩
  have hadsel : adselOf a1 a0 = (if a1 then 2 else 0) + (if a0 then 1 else 0) := by cases a1 <;> cases a0 <;> rfl
  refine ⟨_, exec_brokerResetRelease hr a1 a0 scl sda, rfl, rfl, hadsel, rfl, rfl, rfl, rfl, rfl, rfl, rfl, rfl, rfl,
    rfl, rfl, rfl, rfl, rfl, rfl, rfl, rfl, rfl, rfl, fun q => ?_, rfl⟩
  cases c <;> cases q <;> rfl

/-! ### The invariants at the release (R188) -/

/-- Whatever the cause, the straps and the lines: the state at the release of a broker reset meets every invariant. -/
theorem State.wf_atRelease (c : ResetCause) (adsel : Nat) (scl sda : Bool) (l : List Instr) :
    (State.atRelease c adsel scl sda l).wf = true := by
  have hout := outputsRight_atRelease c adsel scl sda l
  have hrec : (State.atRelease c adsel scl sda l).recordsWf = true :=
    (State.recordsWf_iff _).2 fun o => by cases o <;> rfl
  have hset : (State.atRelease c adsel scl sda l).settings.wf = true := Settings.wf_default
  have hbus := (State.busWf_iff _).2 (State.BusOk.atRelease c adsel scl sda l)
  obtain ⟨hmirror, hmarks, htickets⟩ := (State.apart_iff _).1 (State.Apart.atRelease c adsel scl sda l)
  have hlease : (State.atRelease c adsel scl sda l).leasesWf = true := rfl
  have hports : (State.atRelease c adsel scl sda l).portsWf = true := rfl
  simp only [State.wf, hout, hrec, hset, hlease, hmirror, hmarks, hports, hbus, htickets, Bool.and_self]

/-- Settles O60: the state right after reset is one at the release of a broker reset. -/
theorem resetMeetsInvariants : Obligations.ResetMeetsInvariants := State.wf_atRelease ..

end Sys2Proof.Machine

/-! Every command goes on (log 1): each is a controller's command or an event, and none reaches the queue of commands. In
a broker reset neither is taken (R187). -/

namespace Sys2Proof.Machine

variable {s t : State}

/-! ### The queue of commands: what a controller's command leaves of it -/

theorem State.submit_pending (s : State) (o : Direct) (req : Except Status Request) :
    (s.submit o req).1.pending = s.pending := by
  rcases s.submit_cases o req with h | ⟨r, -, h⟩ <;> simp [h]

theorem State.transact_pending (s : State) (o : Direct) (req : Except Status Request) :
    (s.transact o req).1.pending = s.pending := by
  rcases s.transact_cases o req with h | ⟨r, -, h⟩ <;> simp [h]

theorem State.cancel_pending (s : State) (o : Direct) (n : Nat) : (s.cancel o n).1.pending = s.pending := by
  rcases s.cancel_cases o n with ⟨k, -, h⟩ | ⟨k, -, h⟩ | h <;> simp [h]

theorem State.collect_pending (s : State) (o : Direct) (k n : Nat) : (s.collect o k n).1.pending = s.pending := by
  unfold State.collect State.acknowledge
  dsimp only
  split_ifs <;> simp

theorem State.fetchNotices_pending (s : State) (o : Direct) (k : Nat) (seen : Bool) (n : Nat) :
    (s.fetchNotices o k seen n).1.pending = s.pending := by
  unfold State.fetchNotices
  dsimp only
  split_ifs <;> simp

theorem State.lease_pending (s : State) (o : Direct) (a : Byte) (d : Nat) (f : Byte) :
    (s.lease o a d f).1.pending = s.pending := by
  obtain ⟨l, hl⟩ := s.lease_fst o a d f
  simp [hl]

theorem State.release_pending (s : State) (o : Direct) (a : Byte) : (s.release o a).1.pending = s.pending := by
  obtain ⟨l, hl⟩ := s.release_fst o a
  simp [hl]

theorem State.withdrawPoll_pending (s : State) (i : Nat) : (s.withdrawPoll i).pending = s.pending := by
  unfold State.withdrawPoll
  split_ifs <;> simp

theorem State.defineNew_pending (s : State) (o : Direct) (i : Nat) (p : Definition) :
    (s.defineNew o i p).pending = s.pending := by
  simp [State.defineNew, State.fallsDue]

theorem State.defineAt_pending (s : State) (o : Direct) (i : Nat) (p : Definition) :
    (s.defineAt o i p).1.pending = s.pending := by
  unfold State.defineAt State.redefine State.redefined State.fallsDue
  dsimp only
  split
  · exact s.defineNew_pending o i p
  · split_ifs <;> simp [State.withdrawPoll_pending]

theorem State.mirrorDefine_pending (s : State) (o : Direct) (x : Byte) (p : Definition) :
    (s.mirrorDefine o x p).1.pending = s.pending := by
  unfold State.mirrorDefine
  split_ifs
  · rfl
  · split
    · rfl
    · split
      · exact s.defineNew_pending o _ p
      · rfl
  · split
    · rfl
    · exact s.defineAt_pending o _ p

theorem State.dropEntry_pending (s : State) (i : Nat) (e : Entry) : (s.dropEntry i e).pending = s.pending := by
  unfold State.dropEntry
  dsimp only
  split_ifs <;> simp [State.withdrawPoll_pending]

theorem State.mirrorDrop_pending (s : State) (o : Direct) (x : Byte) : (s.mirrorDrop o x).1.pending = s.pending :=
  State.onEntry_keeps (P := fun u => u.pending = s.pending) rfl x _ fun e _ => by
    split_ifs
    · exact s.dropEntry_pending _ e
    · rfl

theorem State.setSubscribed_pending (s : State) (o : Direct) (x : Byte) (on : Bool) :
    (s.setSubscribed o x on).1.pending = s.pending :=
  State.onEntry_keeps (P := fun u => u.pending = s.pending) rfl x _ fun e _ => by simp

theorem State.refresh_pending (s : State) (x : Byte) : (s.refresh x).1.pending = s.pending :=
  State.onEntry_keeps (P := fun u => u.pending = s.pending) rfl x _ fun e _ => by
    unfold State.post
    split_ifs
    · rfl
    · cases s.noPlace .p <;> simp

theorem State.settingWrite_pending (s : State) (o : Direct) (n : Nat) (v : Field) :
    (s.settingWrite o n v).1.pending = s.pending := by
  unfold State.settingWrite State.writeSetting State.idleDetectWritten State.quotaWritten State.tellSetting
  split_ifs <;> simp

theorem State.originReset_pending (s : State) (o : Direct) : (s.originReset o).pending = s.pending := by
  have hqueue : (s.queueReset o).pending = s.pending := by
    unfold State.queueReset
    dsimp only
    split_ifs <;> simp
  have hdrop : ∀ u i, u.pending = s.pending → (State.dropOwned o u i).pending = s.pending := fun u i hu => by
    unfold State.dropOwned
    split
    · split_ifs
      · exact (u.dropEntry_pending i _).trans hu
      · exact hu
    · exact hu
  have hmirror := foldl_keeps (P := fun u => u.pending = s.pending) (State.dropOwned o) (List.range Config.maxEntries)
    hdrop (((s.queueReset o).leaseReset o).unsubscribeAll o) (by simpa [State.unsubscribeAll, State.leaseReset] using hqueue)
  simpa [State.originReset, State.mirrorReset] using hmirror

theorem State.busRecover_pending (s : State) : s.busRecover.1.pending = s.pending := by
  unfold State.busRecover
  split
  · split <;> simp [State.attemptRecovery, State.stopHeld]
  all_goals simp [State.attemptRecovery]

/-! ### What an event leaves of it -/

theorem State.decoded_pending (s : State) (o : Direct) (d : Decoded) : (s.decoded o d).pending = s.pending := by
  cases d <;> simp [State.decoded]

theorem State.endWrite_pending (s : State) (port : TwPort) (bytes : List Byte) (c : Cond) :
    (s.endWrite port bytes c).pending = s.pending := by
  unfold State.endWrite
  dsimp only
  split_ifs <;> simp [State.decoded_pending]

theorem State.endBlock_pending (s : State) (bytes : List Byte) : (s.endBlock bytes).pending = s.pending := by
  unfold State.endBlock State.takeRequest
  dsimp only
  split
  · rfl
  · split_ifs
    · rfl
    · exact State.decoded_pending _ _ _

theorem State.holdExpires_pending (s : State) (o : Direct) (n : Nat) : (s.holdExpires o n).pending = s.pending := by
  simp [State.holdExpires]

theorem State.goesOn_pending {k : Ticket} (h : s.goesOn t k) : t.pending = s.pending := by
  obtain ⟨st, bit, f, rfl⟩ := h
  simp

theorem State.startTicket_pending (s : State) (c : Choice) : (s.startTicket c).pending = s.pending := by
  simp [State.startTicket, State.takeChoice]

theorem State.completeStop_pending (s : State) (k : Ticket) (r : Result) :
    (s.completeStop k r).pending = s.pending := by
  simp [State.completeStop, State.ownStop]

theorem State.loseArbitration_pending (s : State) (k : Ticket) (cut : Sampled) :
    (s.loseArbitration k cut).pending = s.pending := by
  simp [State.loseArbitration, State.giveBack]

theorem State.timeOut_pending (s : State) (k : Ticket) (cut : Sampled) (r : Result) (scl sda : Bool) :
    (s.timeOut k cut r scl sda).pending = s.pending := by
  simp [State.timeOut]

theorem State.foreignCondition_pending (s : State) (c : Cond) : (s.foreignCondition c).pending = s.pending := by
  unfold State.foreignCondition
  split <;> simp

theorem State.seeFall_pending (s : State) (line : BusLine) : (s.seeFall line).pending = s.pending := by
  cases line <;> simp [State.seeFall]

theorem State.seeReleased_pending (s : State) : s.seeReleased.pending = s.pending := by
  unfold State.seeReleased
  split_ifs <;> simp

theorem State.afterPulse_pending (s : State) (sda : Bool) : (s.afterPulse sda).pending = s.pending := by
  unfold State.afterPulse
  split_ifs <;> simp

theorem State.heldDataExpires_pending (s : State) : s.heldDataExpires.pending = s.pending := by
  unfold State.heldDataExpires
  split_ifs <;> simp [State.stopHeld]

theorem State.lineChanges_pending (s : State) (line : BusLine) (level : Bool) :
    (s.lineChanges line level).pending = s.pending := by
  have hfalls : s.sclFalls.pending = s.pending := by
    unfold State.sclFalls
    split <;> simp [State.clockFell]
  cases line <;> cases level <;> simp [State.lineChanges, hfalls]

theorem State.allFallDue_pending (s : State) (due : Time) : (s.allFallDue due).pending = s.pending := by
  have htake : ∀ u i, u.pending = s.pending → (State.takeDueOf due u i).pending = s.pending := fun u i hu => by
    unfold State.takeDueOf
    split_ifs <;> simp [hu]
  simpa [State.allFallDue] using foldl_keeps (P := fun u => u.pending = s.pending) _ _ htake s rfl

theorem State.expireLease_pending (s : State) (l : Lease) : (s.expireLease l).pending = s.pending := by
  simp [State.expireLease]

/-! ### Commands and events -/

/-- What answers outside the resets: the command of a controller or an event, whose act or effect leaves the queue of
commands. -/
inductive CommandOrEvent (s : State) : Host.Outcome State Fault Refusal → Prop where
  | command (o : Direct) (i : Instr) (act : State → State × Reply) (hact : ∀ u, (act u).1.pending = u.pending) :
      CommandOrEvent s (command o i act s)
  | event (possible : Bool) (e : State) (he : e.pending = s.pending) : CommandOrEvent s (event possible e s)

/-- The event of something that is not there is not taken. -/
theorem CommandOrEvent.absent (s : State) : CommandOrEvent s (Sys2Proof.Machine.event false s s) := .event _ _ rfl

theorem CommandOrEvent.goesOn {x : Host.Outcome State Fault Refusal} (h : CommandOrEvent s x) :
    ∃ t, x = .next t ∧ t.pending = s.pending := by
  cases h with
  | command o i act hact =>
    have hc : ∀ u : State, (u.carryOut o act).pending = u.pending := fun u => by simp [State.carryOut, hact]
    rcases command_cases s o i act with ⟨-, h⟩ | ⟨-, h⟩ | h
    · exact ⟨_, h, hc s⟩
    · exact ⟨_, h, (hc _).trans (by simp)⟩
    · exact ⟨_, h, rfl⟩
  | event possible e he =>
    rcases event_cases s possible e with ⟨-, -, h⟩ | h
    · exact ⟨_, h, by simpa using he⟩
    · exact ⟨_, h, rfl⟩

/-- In a broker reset no frame is taken, no command is answered and no event happens (R187). -/
theorem CommandOrEvent.resetting {x : Host.Outcome State Fault Refusal} (h : CommandOrEvent s x)
    (hr : s.resetting ≠ none) : x = .next s := by
  cases h with
  | command o i act => simp [Sys2Proof.Machine.command, State.hands, State.takesUnshown, hr]
  | event possible e => simp [Sys2Proof.Machine.event, hr]

/-- Every command but the entry and the release of a broker reset is one or the other. -/
theorem exec_commandOrEvent (i : Instr) (s : State) (hentry : ∀ c, i ≠ .brokerResetEntry c)
    (hrelease : ∀ a b c d, i ≠ .brokerResetRelease a b c d) : CommandOrEvent s (exec i s) := by
  cases i
  case submit => exact .command _ _ _ fun u => u.submit_pending _ _
  case transact => exact .command _ _ _ fun u => u.transact_pending _ _
  case cancel => exact .command _ _ _ fun u => u.cancel_pending _ _
  case ticketQuery | mirrorRead | settingRead | status => exact .command _ _ _ fun _ => rfl
  case collect => exact .command _ _ _ fun u => u.collect_pending _ _ _
  case notices => exact .command _ _ _ fun u => u.fetchNotices_pending _ _ _ _
  case lease => exact .command _ _ _ fun u => u.lease_pending _ _ _ _
  case release => exact .command _ _ _ fun u => u.release_pending _ _
  case mirrorDefine => exact .command _ _ _ fun u => u.mirrorDefine_pending _ _ _
  case mirrorDrop => exact .command _ _ _ fun u => u.mirrorDrop_pending _ _
  case subscribe | unsubscribe => exact .command _ _ _ fun u => u.setSubscribed_pending _ _ _
  case refresh => exact .command _ _ _ fun u => u.refresh_pending _
  case settingWrite => exact .command _ _ _ fun u => u.settingWrite_pending _ _ _
  case originReset o => exact .command _ _ (fun u => (u.originReset o, .answer .ok [])) fun u => u.originReset_pending o
  case busRecover => exact .command _ _ _ fun u => u.busRecover_pending
  case upstreamAddressByte | writeTransferAbort | responseReadComplete | readEndedEarly | noRequest | upstreamStop =>
    exact .event _ _ (by simp)
  case writeTransferEnd => exact .event _ _ (s.endWrite_pending _ _ _)
  case blockStart => exact .event _ _ (by simp)
  case blockEnd => exact .event _ _ (s.endBlock_pending _)
  case holdLimitExpiry | portCHoldExpiry =>
    simp only [exec, execHoldLimitExpiry, execPortCHoldExpiry]
    split
    · exact .event _ _ (s.holdExpires_pending _ _)
    all_goals exact .absent s
  case ticketStart =>
    simp only [exec, execTicketStart]
    split
    · exact .event _ _ (s.startTicket_pending _)
    · exact .absent s
  case addressByteEnd =>
    simp only [exec, execAddressByteEnd]
    split
    · exact .event _ _ (State.goesOn_pending (s.afterAddress_goesOn _ _))
    · exact .absent s
  case writeByteEnd =>
    simp only [exec, execWriteByteEnd]
    split
    · exact .event _ _ (State.goesOn_pending (s.afterWriteByte_goesOn _ _))
    · exact .absent s
  case restartEnd =>
    simp only [exec, execRestartEnd]
    split
    · exact .event _ _ (State.goesOn_pending (s.afterRestart_goesOn _ _))
    · exact .absent s
  case readByteEnd =>
    simp only [exec, execReadByteEnd]
    split
    · exact .event _ _ (State.goesOn_pending (s.afterReadByte_goesOn _))
    · exact .absent s
  case stopComplete =>
    simp only [exec, execStopComplete]
    split
    · exact .event _ _ (s.completeStop_pending _ _)
    · exact .absent s
  case arbitrationLost =>
    simp only [exec, execArbitrationLost]
    split
    · exact .event _ _ (s.loseArbitration_pending _ _)
    · exact .absent s
  case misplacedCondition =>
    simp only [exec, execMisplacedCondition]
    split
    · exact .event _ _ (by simp)
    · exact .absent s
  case stretchTimeout | transactionTimeout =>
    simp only [exec, execStretchTimeout, execTransactionTimeout]
    split
    · exact .event _ _ (s.timeOut_pending _ _ _ _ _)
    · exact .absent s
  case recoveryClockRise => exact .event _ _ (by simp [State.stopWait])
  case recoveryPulse => exact .event _ _ ((State.afterPulse_pending _ _).trans (by simp [State.countPulse]))
  case stuckLimitExpiry => exact .event _ _ (by simp [State.seeReleased_pending])
  case recoveryStopComplete => exact .event _ _ (by simp [State.completeRecovery])
  case recoveryStopFail => exact .event _ _ (by simp)
  case retryCountExpiry => exact .event _ _ (by simp [State.attemptRecovery])
  case foreignStart | stopSeen => exact .event _ _ (s.foreignCondition_pending _)
  case busFreeTimePassed | idleDetect => exact .event _ _ (by simp)
  case lineFallInFree => exact .event _ _ ((State.seeFall_pending _ _).trans (by simp))
  case heldDataExpiry => exact .event _ _ s.heldDataExpires_pending
  case deadlineExpiry =>
    simp only [exec, execDeadlineExpiry]
    split
    · exact .event _ _ (by simp [State.expireTicket])
    · exact .absent s
  case leaseExpiry =>
    simp only [exec, execLeaseExpiry]
    split
    · exact .event _ _ (s.expireLease_pending _)
    · exact .absent s
  case pollDue =>
    simp only [exec, execPollDue]
    split
    · exact .event _ _ (s.allFallDue_pending _)
    · exact .absent s
  case staleness =>
    simp only [exec, execStaleness]
    split
    · exact .event _ _ (by simp)
    · exact .absent s
  case brokerTimeTick => exact .event _ _ rfl
  case dBusLineChange => exact .event _ _ (s.lineChanges_pending _ _)
  case brokerResetEntry c => exact absurd rfl (hentry c)
  case brokerResetRelease a b c d => exact absurd rfl (hrelease a b c d)

/-- Settles O2: a command is one of the two resets, a controller's command or an event. -/
theorem everyCommandGoesOn : Obligations.EveryCommandGoesOn := by
  refine ⟨fun i s => ?_, fun i s hr hentry hrelease => (exec_commandOrEvent i s hentry hrelease).resetting hr⟩
  by_cases hentry : ∃ c, i = .brokerResetEntry c
  · obtain ⟨c, rfl⟩ := hentry
    exact ⟨_, rfl, rfl⟩
  · by_cases hrelease : ∃ a b c d, i = .brokerResetRelease a b c d
    · obtain ⟨a1, a0, scl, sda, rfl⟩ := hrelease
      cases hr : s.resetting with
      | none => exact ⟨s, by simp only [exec, execBrokerResetRelease, hr], rfl⟩
      | some c => exact ⟨_, exec_brokerResetRelease hr a1 a0 scl sda, rfl⟩
    · exact (exec_commandOrEvent i s (fun c h => hentry ⟨c, h⟩)
        fun a b c d h => hrelease ⟨a, b, c, d, h⟩).goesOn

end Sys2Proof.Machine

/-! ORIGIN RESET (R185): poll tickets and due marks apart, and what a drop makes of P's tickets (R27, R131). -/

namespace Sys2Proof.Machine

variable {s t u : State} {o : Direct} {i n : Nat} {e : Entry}

/-! ### Poll tickets told apart (R4, R120) -/

/-- Poll tickets that are not orphaned are of entries with a poll posted, at most one of each, and due marks stand on
entries without (R119 to R121). -/
structure State.PollsApart (s : State) : Prop where
  nodup : (s.numbersOf .p).Nodup
  posted : ∀ i ∈ s.numbersOf .p, s.postedMark i = some true
  marks : s.dueMarksWf = true

theorem State.pollsApart_iff (s : State) : s.PollsApart ↔ s.pollsWf = true ∧ s.dueMarksWf = true := by
  rw [State.pollsWf_iff]
  exact ⟨fun ⟨hn, hp, hm⟩ => ⟨⟨hn, hp⟩, hm⟩, fun ⟨⟨hn, hp⟩, hm⟩ => ⟨hn, hp, hm⟩⟩

/-- P's numbers are read from its order and the ACTIVE ticket. -/
theorem State.mem_numbersOf_p {s : State} : i ∈ s.numbersOf .p ↔
    i ∈ (s.queuedOf .p).map (·.number) ∨ i ∈ activeNumbers s.queue.active .p := by
  simp [State.numbersOf, State.endedNumbers, originDirect]

/-- A poll ticket in P's order is of a defined entry. -/
theorem State.PollsApart.entry_ne_none (h : s.PollsApart) {k : Ticket} (hk : k ∈ s.queuedOf .p) :
    s.entry k.number ≠ none := fun hc => by
  have hp := h.posted k.number (State.mem_numbersOf_p.2 (.inl (List.mem_map_of_mem hk)))
  simp [State.postedMark, hc] at hp

theorem State.pollTickets_numbers (s : State) (l : List DueMark) (h : ∀ m ∈ l, postable s m) :
    (s.pollTickets l).map (·.number) = l.map (·.index) := by
  induction l with
  | nil => rfl
  | cons m ms ih =>
    obtain ⟨e, he, -⟩ := h m (by simp)
    have ih := ih fun n hn => h n (by simp [hn])
    simp only [State.pollTickets] at ih ⊢
    simp [he, ih, State.pollTicket]

/-- A retry trigger posts polls of entries that had none (R122). -/
theorem State.PollsApart.retryPosts (h : s.PollsApart) : s.retryPosts.PollsApart := by
  obtain ⟨hmarks, hidle⟩ := s.dueMarksWf_iff_postedMark.1 h.marks
  obtain ⟨-, hpostable⟩ := s.dueMarksWf_iff.1 h.marks
  obtain ⟨posts, left, hsplit, -, hq, hent, -, -⟩ := s.retryPosts_retried h.marks
  obtain ⟨⟨_, hqueue⟩, -⟩ := s.retryPosts_effect
  have hactive : s.retryPosts.queue.active = s.queue.active := by rw [hqueue]
  have hnew := s.pollTickets_numbers posts fun m hm => hpostable m (by simp [hsplit, hm])
  have hsub : ∀ i ∈ posts.map (·.index), i ∈ s.dueMarks.map (·.index) := fun i hi => by
    rw [hsplit, List.map_append]
    exact List.mem_append_left _ hi
  have hperm : (s.retryPosts.numbersOf .p).Perm (posts.map (·.index) ++ s.numbersOf .p) := by
    have hn : s.retryPosts.numbersOf .p = (s.queuedOf .p).map (·.number) ++ posts.map (·.index) ++
        activeNumbers s.queue.active .p ++ s.endedNumbers .p := by
      rw [State.numbersOf, hq, hactive, List.map_append, hnew]
      rfl
    rw [hn, State.numbersOf, ← List.append_assoc, ← List.append_assoc]
    exact (List.perm_append_comm.append_right _).append_right _
  have hposted : ∀ i, s.retryPosts.postedMark i = (s.postedMark i).map (· || posts.any (·.index = i)) := fun i => by
    simp only [State.postedMark, hent, Option.map_map]
    rfl
  refine ⟨hperm.nodup_iff.2 (List.Nodup.append ?_ h.nodup fun i hi hn => ?_), fun i hi => ?_,
    s.keeps_retryPosts.dueMarks h.marks⟩
  · rw [hsplit, List.map_append] at hmarks
    exact hmarks.of_append_left
  · exact absurd ((hidle i (hsub i hi)).symm.trans (h.posted i hn)) (by simp)
  · rw [hposted]
    rcases List.mem_append.1 (hperm.mem_iff.1 hi) with hi | hi
    · have hany : posts.any (·.index = i) = true := by simpa using hi
      rw [hidle i (hsub i hi), hany]
      rfl
    · rw [h.posted i hi]
      rfl

/-! ### A drop and P's tickets (R19, R114) -/

theorem without_eq_filter {l : List Ticket} (h : (l.map (·.number)).Nodup) :
    without n l = l.filter (·.number ≠ n) := by
  induction l with
  | nil => rfl
  | cons k ks ih =>
    obtain ⟨hk, hks⟩ := List.nodup_cons.1 h
    by_cases hn : k.number = n
    · have hall : ∀ j ∈ ks, j.number ≠ n := fun j hj hc => hk (List.mem_map.2 ⟨j, hj, hc.trans hn.symm⟩)
      have hf : ks.filter (·.number ≠ n) = ks := List.filter_eq_self.2 (by simpa using hall)
      rw [without, if_pos hn, List.filter_cons_of_neg (by simp [hn]), hf]
    · rw [without, if_neg hn, List.filter_cons_of_pos (by simp [hn]), ih hks]

/-- An ACTIVE poll ticket that is orphaned already is left as it is. -/
theorem Queue.orphanPoll_orphaned {q : Queue}
    (h : ∀ k, q.active = some k → k.origin = .p → k.number = i → k.orphaned = true) : q.orphanPoll i = q := by
  obtain ⟨queued, active, waiting, counter, current, credit⟩ := q
  cases active with
  | none => rfl
  | some k =>
    have hk : (if k.origin = .p ∧ k.number = i then { k with orphaned := true } else k) = k := by
      split_ifs with hx
      · rw [← h k rfl hx.1 hx.2]
      · rfl
    simp [Queue.orphanPoll, hk]

theorem activeNumbers_orphanPoll (q : Queue) (i : Nat) :
    activeNumbers (q.orphanPoll i).active .p = (activeNumbers q.active .p).filter (· ≠ i) := by
  cases ha : q.active with
  | none => simp [Queue.orphanPoll, ha]
  | some k =>
    by_cases hk : k.origin = .p ∧ k.number = i
    · rw [Queue.orphanPoll_active ha hk.1 hk.2, activeNumbers_some, activeNumbers_some]
      simp [Ticket.counts, hk, apply_ite]
    · have hx : q.orphanPoll i = q := Queue.orphanPoll_other fun j hj ho hn => hk (by
        cases ha.symm.trans hj
        exact ⟨ho, hn⟩)
      rw [hx, ha, activeNumbers_some]
      split_ifs with hc
      · have hn : k.number ≠ i := fun hn => hk ⟨hc.1, hn⟩
        simp [hn]
      · rfl

/-- A withdrawn poll ticket is out of P's order, and orphaned where it was ACTIVE. -/
theorem State.withdrawPoll_queue (h : (s.numbersOf .p).Nodup) (i : Nat) : (s.withdrawPoll i).queue =
    { s.queue.orphanPoll i with
      queued := { s.queue.queued with p := (s.queuedOf .p).filter (·.number ≠ i) } } := by
  have hnodup : ((s.queuedOf .p).map (·.number) ++ activeNumbers s.queue.active .p).Nodup := h.of_append_left
  by_cases hq : i ∈ (s.queuedOf .p).map (·.number)
  · have hqueued : s.pollQueued i = true := by simpa [State.pollQueued] using hq
    have horphan : s.queue.orphanPoll i = s.queue := Queue.orphanPoll_orphaned fun k ha ho hn => by
      by_contra hc
      refine List.disjoint_of_nodup_append hnodup hq ?_
      rw [ha, activeNumbers_some, if_pos ⟨ho, by simpa [Ticket.counts] using Or.inr hc⟩, hn]
      simp
    rw [State.withdrawPoll, if_pos hqueued, horphan, State.dequeue, without_eq_filter hnodup.of_append_left]
    simp [PerOrigin.set]
  · have hnone : ∀ k ∈ s.queuedOf .p, k.number ≠ i := by simpa using hq
    have hf : (s.queuedOf .p).filter (·.number ≠ i) = s.queuedOf .p :=
      List.filter_eq_self.2 (by simpa using hnone)
    rw [State.withdrawPoll_unqueued hnone, hf]
    rfl

theorem State.PollsApart.dropped (h : s.PollsApart) (i : Nat) (e : Entry) : (s.dropped i e).PollsApart := by
  obtain ⟨-, hq, hm, -⟩ := s.dropped_frame i e
  have hnum : (s.dropped i e).numbersOf .p = (s.numbersOf .p).filter (· ≠ i) := by
    rw [State.numbersOf, State.numbersOf, State.queuedOf, hq, State.withdrawPoll_queue h.nodup]
    simp only [activeNumbers_orphanPoll, PerOrigin.get, State.endedNumbers, originDirect, List.filter_append,
      List.filter_map]
    rfl
  have hmark : ∀ j, j ≠ i → (s.dropped i e).postedMark j = s.postedMark j := fun j hj =>
    (State.postedMark_congr (s := s.setEntry i none) (by simp [hm]) j).trans (State.postedMark_setEntry_of_ne none hj)
  have hkeeps : s.KeepsTables (s.dropped i e) :=
    ((State.keeps_notifyEach (s.withdrawPoll i) (e.subs.set e.owner false) .entryDropped (.entry i) []).after
      (s.tables_withdrawPoll i)).trans (State.keeps_replaceEntry _ i none)
  refine ⟨by rw [hnum]; exact h.nodup.filter _, fun j hj => ?_, hkeeps.dueMarks h.marks⟩
  rw [hnum] at hj
  obtain ⟨hj, hne⟩ := List.mem_filter.1 hj
  rw [hmark j (by simpa using hne), h.posted j hj]

theorem State.PollsApart.dropEntry (h : s.PollsApart) (i : Nat) (e : Entry) : (s.dropEntry i e).PollsApart := by
  rw [State.dropEntry_eq]
  split_ifs
  · exact (h.dropped i e).retryPosts
  · exact h.dropped i e

/-- The queue but for P's order and the ACTIVE ticket. -/
def Queue.besidesPolls (q : Queue) : Queue := { q with queued := { q.queued with p := [] }, active := none }

/-- A drop ends at most in a retry trigger. -/
theorem State.dropEntry_queue (s : State) (i : Nat) (e : Entry) : ∃ posts, (s.dropEntry i e).queue =
    { (s.withdrawPoll i).queue with
      queued := { (s.withdrawPoll i).queue.queued with p := (s.withdrawPoll i).queuedOf .p ++ posts } } := by
  obtain ⟨-, hq, -⟩ := s.dropped_frame i e
  rw [State.dropEntry_eq]
  split_ifs
  · obtain ⟨⟨posts, hposts⟩, -⟩ := (s.dropped i e).departed_effect
    exact ⟨posts, by rw [hposts, hq]; rfl⟩
  · exact ⟨[], by rw [hq, List.append_nil]; rfl⟩

/-- A drop reaches nothing of the queue but P's order and an ACTIVE poll ticket. -/
theorem State.dropEntry_besidesPolls (s : State) (i : Nat) (e : Entry) :
    (s.dropEntry i e).queue.besidesPolls = s.queue.besidesPolls ∧
      ∀ k, s.queue.active = some k → k.origin ≠ .p → (s.dropEntry i e).queue.active = some k := by
  obtain ⟨posts, hposts⟩ := s.dropEntry_queue i e
  rw [hposts]
  unfold State.withdrawPoll
  split_ifs
  · exact ⟨rfl, fun k ha _ => ha⟩
  · refine ⟨rfl, fun k ha ho => ?_⟩
    simp [Queue.orphanPoll, ha, ho]

/-- A drop takes the entry's poll ticket out of P's order, or orphans it where it is ACTIVE; posts may join the order. -/
theorem State.PollsApart.dropEntry_queue (h : s.PollsApart) (i : Nat) (e : Entry) :
    (∃ posts, (s.dropEntry i e).queuedOf .p = (s.queuedOf .p).filter (·.number ≠ i) ++ posts) ∧
      (s.dropEntry i e).queue.active = (s.queue.orphanPoll i).active := by
  obtain ⟨posts, hposts⟩ := s.dropEntry_queue i e
  rw [State.queuedOf, hposts, State.queuedOf, State.withdrawPoll_queue h.nodup]
  exact ⟨⟨posts, rfl⟩, rfl⟩

end Sys2Proof.Machine

/-! The parts of an ORIGIN RESET in their order (log 11): the queue's, the lease table's, the mirror's, the records'. -/

namespace Sys2Proof.Machine

variable {s u : State} {o : Direct} {i n : Nat}

/-! ### Entries but for their poll-posted marks -/

/-- An entry but for its poll-posted mark, which a retried post may set (R122). -/
def Entry.unposted (e : Entry) : Entry := { e with posted := false }

/-- An entry that an origin is no subscriber of. -/
def Entry.unsubscribed (e : Entry) (o : Direct) : Entry := { e with subs := e.subs.set o false }

theorem Entry.eq_of_unposted {e e' : Entry} (h : e'.unposted = e.unposted) : e' = { e with posted := e'.posted } := by
  cases e
  cases e'
  cases h
  rfl

/-- The entry is defined and its owner that origin. -/
def State.owns (s : State) (o : Direct) (i : Nat) : Bool := (s.entry i).any fun e => e.owner = o

/-- The owner is read but for the poll-posted mark. -/
theorem any_owner_unposted (x : Option Entry) (o : Direct) :
    (x.any fun e => e.owner = o) = (x.map Entry.unposted).any fun e => e.owner = o := by
  cases x <;> rfl

theorem State.owns_congr (h : (u.entry i).map Entry.unposted = (s.entry i).map Entry.unposted) (o : Direct) :
    u.owns o i = s.owns o i := by
  rw [State.owns, State.owns, any_owner_unposted, any_owner_unposted (s.entry i), h]

/-! ### The drops in index order (R131, log 35) -/

/-- The state once the origin's entries below an index have been dropped. -/
def State.droppedBelow (u : State) (o : Direct) (n : Nat) : State := (List.range n).foldl (State.dropOwned o) u

theorem State.droppedBelow_succ (u : State) (o : Direct) (n : Nat) :
    u.droppedBelow o (n + 1) = State.dropOwned o (u.droppedBelow o n) n := by
  simp [State.droppedBelow, List.range_succ]

theorem State.dropOwned_other (h : u.owns o i = false) : State.dropOwned o u i = u := by
  unfold State.dropOwned
  unfold State.owns at h
  split
  · next e he => exact if_neg (by simpa [he] using h)
  · rfl

theorem State.dropOwned_owned {e : Entry} (he : u.entry i = some e) (ho : e.owner = o) :
    State.dropOwned o u i = u.dropEntry i e := by
  simp [State.dropOwned, he, ho]

/-- Each entry by its place: an owned one below the index is EMPTY, every other is as it was but for its poll-posted
mark. -/
theorem State.droppedBelow_entry (u : State) (o : Direct) (n i : Nat) :
    ((u.droppedBelow o n).entry i).map Entry.unposted =
      if i < n ∧ u.owns o i = true then none else (u.entry i).map Entry.unposted := by
  induction n generalizing i with
  | zero => simp [State.droppedBelow]
  | succ n ih =>
    have hn := ih n
    rw [if_neg (by omega)] at hn
    have howns := State.owns_congr hn o
    have hstep : ∀ v : State, i ≠ n → (v.entry i).map Entry.unposted = ((u.droppedBelow o n).entry i).map Entry.unposted →
        (v.entry i).map Entry.unposted =
          if i < n + 1 ∧ u.owns o i = true then none else (u.entry i).map Entry.unposted := fun v hi hv => by
      rw [hv, ih i]
      simp only [show i < n + 1 ↔ i < n by omega]
    rw [State.droppedBelow_succ]
    cases ho : u.owns o n with
    | false =>
      rw [State.dropOwned_other (howns.trans ho)]
      rcases eq_or_ne i n with rfl | hi
      · rw [hn, ho, if_neg (by simp)]
      · exact hstep _ hi rfl
    | true =>
      obtain ⟨e, he, heo⟩ := (Option.any_eq_true _ _).1 (howns.trans ho)
      obtain ⟨hnone, -, hother⟩ := State.dropEntry_effect he
      rw [State.dropOwned_owned he (of_decide_eq_true heo)]
      rcases eq_or_ne i n with rfl | hi
      · rw [hnone, ho, if_pos ⟨by omega, rfl⟩]
        rfl
      · exact hstep _ hi (hother i hi)

/-- What holds of a state, and is kept where an entry is passed over or dropped, holds once the drops are done. -/
theorem State.droppedBelow_induct {P : Nat → State → Prop} (u : State) (o : Direct) (h0 : P 0 u)
    (hother : ∀ n v, u.owns o n = false → P n v → P (n + 1) v)
    (hdrop : ∀ n v e e', u.entry n = some e → e.owner = o → e'.unposted = e.unposted → P n v →
      P (n + 1) (v.dropEntry n e')) (n : Nat) : P n (u.droppedBelow o n) := by
  induction n with
  | zero => exact h0
  | succ n ih =>
    have hn := u.droppedBelow_entry o n n
    rw [if_neg (by omega)] at hn
    have howns := State.owns_congr hn o
    rw [State.droppedBelow_succ]
    cases ho : u.owns o n with
    | false =>
      rw [State.dropOwned_other (howns.trans ho)]
      exact hother n _ ho ih
    | true =>
      obtain ⟨e', he', heo'⟩ := (Option.any_eq_true _ _).1 (howns.trans ho)
      obtain ⟨e, he, heo⟩ := (Option.any_eq_true _ _).1 ho
      rw [State.dropOwned_owned he' (of_decide_eq_true heo')]
      refine hdrop n _ e e' he (of_decide_eq_true heo) ?_ ih
      rw [he', he] at hn
      exact Option.some.inj hn

/-- The queue but for P's tickets is as it was. -/
theorem State.droppedBelow_besidesPolls (u : State) (o : Direct) (n : Nat) :
    (u.droppedBelow o n).queue.besidesPolls = u.queue.besidesPolls ∧
      ∀ k, u.queue.active = some k → k.origin ≠ .p → (u.droppedBelow o n).queue.active = some k := by
  refine State.droppedBelow_induct (P := fun _ v => v.queue.besidesPolls = u.queue.besidesPolls ∧
    ∀ k, u.queue.active = some k → k.origin ≠ .p → v.queue.active = some k) u o ⟨rfl, fun _ ha _ => ha⟩
    (fun _ _ _ hv => hv) (fun n v _ e' _ _ _ hv => ?_) n
  obtain ⟨hrest, hactive⟩ := hv
  obtain ⟨hrest', hactive'⟩ := v.dropEntry_besidesPolls n e'
  exact ⟨hrest'.trans hrest, fun k ha ho => hactive' k (hactive k ha ho) ho⟩

/-- What the drop of an entry tells another origin: ENTRY_DROPPED where it subscribes. -/
def State.toldOfDrop (s : State) (o q : Direct) (r : Records) (i : Nat) : Records :=
  match s.entry i with
  | some e => if e.owner = o ∧ e.subs.get q = true then r.arrive .entryDropped (.entry i) [] s.time else r
  | none => r

/-- Another origin is told of each dropped entry that it subscribes to, in index order; the time stands. -/
theorem State.droppedBelow_told (u : State) (o : Direct) {q : Direct} (hq : q ≠ o) (n : Nat) :
    (u.droppedBelow o n).time = u.time ∧
      (u.droppedBelow o n).recOf q = (List.range n).foldl (u.toldOfDrop o q) (u.recOf q) := by
  refine State.droppedBelow_induct (P := fun n v => v.time = u.time ∧
    v.recOf q = (List.range n).foldl (u.toldOfDrop o q) (u.recOf q)) u o ⟨rfl, rfl⟩
    (fun n v ho hv => ?_) (fun n v e e' he ho hee hv => ?_) n
  all_goals
    obtain ⟨htime, hrec⟩ := hv
    rw [List.range_succ, List.foldl_append, ← hrec]
  · refine ⟨htime, ?_⟩
    unfold State.owns at ho
    cases he : u.entry n with
    | none => simp [State.toldOfDrop, he]
    | some e =>
      have heo : e.owner ≠ o := by simpa [he] using ho
      simp [State.toldOfDrop, he, heo]
  · have hsame : v.dropEntry n e' = v.dropEntry n { e with posted := e'.posted } := by
      rw [← Entry.eq_of_unposted hee]
    have hqe : q ≠ e.owner := by rwa [ho]
    have htime' : (v.dropEntry n e').time = v.time :=
      State.dropEntry_same (p := .time) nofun nofun nofun v n e' rfl
    refine ⟨htime'.trans htime, ?_⟩
    rw [hsame, State.recOf_dropEntry, htime]
    simp [State.toldOfDrop, he, ho, hq]

/-- P's tickets: those of the dropped entries are gone from its order, and an ACTIVE one is orphaned. -/
theorem State.PollsApart.droppedBelow (h : u.PollsApart) (o : Direct) (n : Nat) :
    (u.droppedBelow o n).PollsApart ∧
      (∃ posts, (u.droppedBelow o n).queuedOf .p =
        (u.queuedOf .p).filter (fun k => !(decide (k.number < n) && u.owns o k.number)) ++ posts) ∧
      (u.droppedBelow o n).queue.active = u.queue.active.map fun k =>
        if k.origin = .p ∧ k.number < n ∧ u.owns o k.number = true then { k with orphaned := true } else k := by
  refine State.droppedBelow_induct (P := fun n v => v.PollsApart ∧
    (∃ posts, v.queuedOf .p =
      (u.queuedOf .p).filter (fun k => !(decide (k.number < n) && u.owns o k.number)) ++ posts) ∧
    v.queue.active = u.queue.active.map fun k =>
      if k.origin = .p ∧ k.number < n ∧ u.owns o k.number = true then { k with orphaned := true } else k) u o
    ⟨h, ⟨[], by simp⟩, by simp⟩ (fun n v ho hv => ?_) (fun n v e e' he ho _ hv => ?_) n
  all_goals obtain ⟨hpolls, ⟨posts, hposts⟩, hactive⟩ := hv
  · have hlt : ∀ k : Ticket, (k.number < n + 1 ∧ u.owns o k.number = true) ↔
        (k.number < n ∧ u.owns o k.number = true) := fun k => by
      constructor
      · rintro ⟨hk, hko⟩
        rcases Nat.lt_succ_iff_lt_or_eq.1 hk with hk | hk
        · exact ⟨hk, hko⟩
        · rw [hk, ho] at hko
          cases hko
      · exact fun ⟨hk, hko⟩ => ⟨by omega, hko⟩
    have hltb : ∀ k : Ticket, (decide (k.number < n + 1) && u.owns o k.number) =
        (decide (k.number < n) && u.owns o k.number) := fun k => by
      rw [Bool.eq_iff_iff]
      simpa using hlt k
    simp only [hlt, hltb]
    exact ⟨hpolls, ⟨posts, hposts⟩, hactive⟩
  · have hn : u.owns o n = true := by simp [State.owns, he, ho]
    obtain ⟨⟨posts', hposts'⟩, hactive'⟩ := hpolls.dropEntry_queue (e := e') n
    refine ⟨hpolls.dropEntry n e', ⟨posts.filter (·.number ≠ n) ++ posts', ?_⟩, ?_⟩
    · rw [hposts', hposts, List.filter_append, List.filter_filter, List.append_assoc]
      congr 1
      refine List.filter_congr fun k _ => ?_
      rcases eq_or_ne k.number n with hk | hk
      · simp [hk, hn]
      · simp [hk, show k.number < n + 1 ↔ k.number < n by omega]
    · rw [hactive', Queue.orphanPoll]
      dsimp only
      rw [hactive, Option.map_map]
      congr 1
      funext k
      rcases eq_or_ne k.number n with hk | hk
      · simp [hk, hn]
      · simp only [Function.comp_apply, show k.number < n + 1 ↔ k.number < n by omega]
        split_ifs <;> simp_all

end Sys2Proof.Machine

/-! ORIGIN RESET (R185): its parts before the drops, and the whole. -/

namespace Sys2Proof.Machine

variable {s t u : State} {o q : Direct} {i : Nat}

/-! ### Before the drops: the queue's and the lease table's parts, and the subscriptions (R27, R107, R131) -/

/-- The state of an ORIGIN RESET as its drops begin. -/
def State.resetBegun (s : State) (o : Direct) : State := ((s.queueReset o).leaseReset o).unsubscribeAll o

theorem State.originReset_eq (s : State) (o : Direct) :
    s.originReset o = ((s.resetBegun o).droppedBelow o 32).setRec o Records.empty := rfl

theorem State.resetBegun_queue (s : State) (o : Direct) : (s.resetBegun o).queue = (s.queueReset o).queue := rfl

/-- A departure, where there is one, may post polls; records, time and entries stay, but for the poll-posted marks. -/
theorem State.queueReset_effect (s : State) (o : Direct) :
    (∃ posts, (s.queueReset o).queue = { s.queue.originReset o with
      queued := { (s.queue.originReset o).queued with p := (s.queue.originReset o).queued.p ++ posts } }) ∧
      (s.queueReset o).sameEntries s ∧ (s.queueReset o).records = s.records ∧ (s.queueReset o).time = s.time := by
  have htime : (s.queueReset o).time = s.time := State.queueReset_same (p := .time) nofun nofun nofun s o
  unfold State.queueReset at htime ⊢
  dsimp only at htime ⊢
  split_ifs at htime ⊢
  · obtain ⟨hposts, hent, hrec⟩ := (s.setQueue (s.queue.originReset o)).departed_effect
    exact ⟨hposts, hent, hrec, htime⟩
  · exact ⟨⟨[], by rw [List.append_nil]; rfl⟩, s.sameEntries_refl, rfl, htime⟩

/-- Every entry is without the origin's subscription, and else as it was but for its poll-posted mark. -/
theorem State.resetBegun_entry (s : State) (o : Direct) (i : Nat) :
    ((s.resetBegun o).entry i).map Entry.unposted = (s.entry i).map fun e => (e.unsubscribed o).unposted := by
  have hent := (s.queueReset_effect o).2.1 i
  have hmap : ∀ x : Option Entry, (x.map fun e => (e.unsubscribed o).unposted) =
      (x.map fun e => { e with posted := false }).map (·.unsubscribed o) := fun x => by cases x <;> rfl
  rw [hmap, ← hent, ← hmap, State.resetBegun, State.entry_unsubscribeAll, Option.map_map]
  rfl

theorem State.owns_resetBegun (s : State) (o : Direct) (i : Nat) : (s.resetBegun o).owns o i = s.owns o i := by
  rw [State.owns, any_owner_unposted, State.resetBegun_entry, State.owns, Option.any_map]
  rfl

theorem State.PollsApart.congr (h : s.PollsApart) (hn : t.numbersOf .p = s.numbersOf .p)
    (hp : ∀ i, t.postedMark i = s.postedMark i) (hm : s.KeepsTables t) : t.PollsApart :=
  ⟨hn ▸ h.nodup, fun i hi => (hp i).trans (h.posted i (hn ▸ hi)), hm.dueMarks h.marks⟩

/-- The queue's part leaves P's tickets to themselves: the origin is a direct one. -/
theorem State.numbersOf_p_originReset (s : State) (o : Direct) :
    (s.setQueue (s.queue.originReset o)).numbersOf .p = s.numbersOf .p := by
  have hactive : activeNumbers (s.queue.originReset o).active .p = activeNumbers s.queue.active .p :=
    activeNumbers_congr (by simp [Queue.originReset, Function.comp_def, Ticket.name_orphanedBy]) .p
  have hqueued : (s.queue.originReset o).queued.get .p = s.queuedOf .p :=
    PerOrigin.get_set_of_ne _ _ _ _ (directOrigin_ne_p o).symm
  simp [State.numbersOf, State.queuedOf, State.endedNumbers, originDirect, hactive, hqueued]

theorem State.PollsApart.resetBegun (h : s.PollsApart) (o : Direct) : (s.resetBegun o).PollsApart := by
  have hset : (s.setQueue (s.queue.originReset o)).PollsApart :=
    h.congr (s.numbersOf_p_originReset o) (State.postedMark_congr rfl) (.of_tables rfl)
  have hqueue : (s.queueReset o).PollsApart := by
    unfold State.queueReset
    dsimp only
    split_ifs
    · exact hset.retryPosts
    · exact hset
  refine hqueue.congr rfl (fun i => ?_)
    ((State.keeps_fewerLeases _ (List.filter_sublist.map _)).trans (State.keeps_unsubscribeAll _ o))
  rw [State.resetBegun, State.postedMark, State.entry_unsubscribeAll, Option.map_map]
  rfl

/-! ### The whole reset -/

/-- The records' part leaves the queue and the mirror to the drops. -/
theorem State.originReset_frame (s : State) (o : Direct) :
    (s.originReset o).queue = ((s.resetBegun o).droppedBelow o 32).queue ∧
      ∀ i, (s.originReset o).entry i = ((s.resetBegun o).droppedBelow o 32).entry i := by
  rw [State.originReset_eq]
  exact ⟨by simp, State.entry_congr (by simp)⟩

/-- The queue's part is the whole reset of the queue, but for P's order and the ACTIVE ticket. -/
theorem State.originReset_besidesPolls (s : State) (o : Direct) :
    (s.originReset o).queue.besidesPolls = (s.queue.originReset o).besidesPolls := by
  obtain ⟨⟨posts, hposts⟩, -⟩ := s.queueReset_effect o
  have hbegun : (s.resetBegun o).queue.besidesPolls = (s.queue.originReset o).besidesPolls := by
    rw [State.resetBegun_queue, hposts]
    rfl
  rw [(s.originReset_frame o).1, ((s.resetBegun o).droppedBelow_besidesPolls o 32).1, hbegun]

theorem Queue.queued_besidesPolls (x : Queue) (q : Direct) :
    x.besidesPolls.queued.get (directOrigin q) = x.queued.get (directOrigin q) := by
  cases q <;> rfl

theorem Queue.fields_of_besidesPolls {x y : Queue} (h : x.besidesPolls = y.besidesPolls) :
    x.waiting = y.waiting ∧ x.counter = y.counter ∧ x.current = y.current ∧ x.credit = y.credit := by
  simp only [Queue.besidesPolls, Queue.mk.injEq] at h
  obtain ⟨-, -, hwaiting, hcounter, hcurrent, hcredit⟩ := h
  exact ⟨hwaiting, hcounter, hcurrent, hcredit⟩

theorem State.originReset_queuedOf (s : State) (o q : Direct) :
    (s.originReset o).queuedOf (directOrigin q) = (s.queue.originReset o).queued.get (directOrigin q) := by
  rw [State.queuedOf, ← Queue.queued_besidesPolls, s.originReset_besidesPolls o, Queue.queued_besidesPolls]

/-- The ACTIVE ticket as the drops begin. -/
theorem State.resetBegun_active (s : State) (o : Direct) :
    (s.resetBegun o).queue.active = s.queue.active.map (·.orphanedBy o) := by
  obtain ⟨⟨posts, hposts⟩, -⟩ := s.queueReset_effect o
  rw [State.resetBegun_queue, hposts]
  rfl

theorem Ticket.orphanedBy_p {k : Ticket} (hk : k.origin = .p) (o : Direct) : k.orphanedBy o = k :=
  if_neg fun h => directOrigin_ne_p o (h.symm.trans hk)

/-- The origin's ACTIVE ticket is orphaned by the queue's part, and no drop reaches it. -/
theorem State.originReset_active {k : Ticket} (ha : s.queue.active = some k) (hk : k.origin = directOrigin o) :
    (s.originReset o).queue.active = some { k with orphaned := true, abort := true, waited := false } := by
  rw [(s.originReset_frame o).1]
  refine ((s.resetBegun o).droppedBelow_besidesPolls o 32).2 _ ?_ (hk ▸ directOrigin_ne_p o)
  rw [State.resetBegun_active, ha]
  exact congrArg some (if_pos hk)

/-- The origin's entries are EMPTY, every other is without its subscription. -/
theorem State.originReset_entry (hm : s.mirror.length ≤ 32) (o : Direct) (i : Nat) :
    ((s.originReset o).entry i).map Entry.unposted =
      if s.owns o i = true then none else (s.entry i).map fun e => (e.unsubscribed o).unposted := by
  have hlt : s.owns o i = true → i < 32 := fun h => by
    obtain ⟨e, he, -⟩ := (Option.any_eq_true _ _).1 h
    exact (s.entry_lt i e he).trans_le hm
  rw [(s.originReset_frame o).2, State.droppedBelow_entry, State.owns_resetBegun, State.resetBegun_entry]
  simp only [and_iff_right_of_imp hlt]

theorem State.originReset_leases (s : State) (o : Direct) :
    (s.originReset o).leases = s.leases.filter (·.holder ≠ o) := by
  have hqueue : (s.queueReset o).leases = s.leases := State.queueReset_same (p := .leases) nofun nofun nofun s o
  have hmirror : (((s.queueReset o).leaseReset o).mirrorReset o).leases = ((s.queueReset o).leaseReset o).leases :=
    State.mirrorReset_same (p := .leases) nofun nofun nofun _ o rfl
  have hlease : ((s.queueReset o).leaseReset o).leases = s.leases.filter (·.holder ≠ o) := by
    simp only [State.leaseReset, State.setLeases_fields, hqueue]
  simp only [State.originReset, State.setRec_fields, hmirror, hlease]

/-- What another origin is told of a drop is read from the entries as they stood before the reset. -/
theorem State.toldOfDrop_resetBegun (s : State) (hq : q ≠ o) : (s.resetBegun o).toldOfDrop o q = s.toldOfDrop o q := by
  funext r i
  have hent := s.resetBegun_entry o i
  have htime : (s.resetBegun o).time = s.time := (s.queueReset_effect o).2.2.2
  unfold State.toldOfDrop
  rw [htime]
  cases he : s.entry i with
  | none =>
    rw [he] at hent
    rw [Option.map_eq_none_iff.1 hent]
  | some e =>
    rw [he] at hent
    obtain ⟨e', he', hee : e'.unposted = (e.unsubscribed o).unposted⟩ := Option.map_eq_some_iff.1 hent
    have howner := congrArg Entry.owner hee
    have hsubs : e'.unposted.subs.get q = e.subs.get q :=
      (congrArg (fun x => x.subs.get q) hee).trans (PerDirect.get_set_of_ne _ _ _ _ hq)
    rw [he']
    simp only [Entry.unposted, Entry.unsubscribed] at howner hsubs
    simp only [howner, hsubs]

theorem State.recOf_originReset (s : State) (o : Direct) : (s.originReset o).recOf o = Records.empty := by
  rw [State.originReset_eq, State.recOf_setRec]

theorem State.originReset_told (s : State) (hq : q ≠ o) :
    (s.originReset o).recOf q = (List.range 32).foldl (s.toldOfDrop o q) (s.recOf q) := by
  have hrec : (s.resetBegun o).recOf q = s.recOf q := State.recOf_congr (s.queueReset_effect o).2.2.1 q
  rw [State.originReset_eq, State.recOf_setRec_of_ne _ _ _ _ hq, ((s.resetBegun o).droppedBelow_told o hq 32).2, hrec,
    State.toldOfDrop_resetBegun s hq]

/-- P's order loses the tickets of the origin's entries; posts of retry triggers may join it. -/
theorem State.PollsApart.originReset_queuedOf (h : s.PollsApart) (hm : s.mirror.length ≤ 32) (o : Direct) :
    ∃ posts, (s.originReset o).queuedOf .p =
        (s.queuedOf .p).filter (fun k => (s.entry k.number).all fun e => e.owner ≠ o) ++ posts ∧
      ∀ k ∈ posts, (s.originReset o).entry k.number ≠ none := by
  obtain ⟨⟨posts0, hposts0⟩, -⟩ := s.queueReset_effect o
  obtain ⟨hapart, ⟨posts, hposts⟩, -⟩ := (h.resetBegun o).droppedBelow o 32
  have hbegun : (s.resetBegun o).queuedOf .p = s.queuedOf .p ++ posts0 := by
    have hp : (s.queue.originReset o).queued.get .p = s.queuedOf .p :=
      PerOrigin.get_set_of_ne _ _ _ _ (directOrigin_ne_p o).symm
    rw [← hp, State.queuedOf, State.resetBegun_queue, hposts0]
    rfl
  have howns : ∀ k : Ticket, (!(decide (k.number < 32) && (s.resetBegun o).owns o k.number)) =
      (s.entry k.number).all fun e => e.owner ≠ o := fun k => by
    rw [State.owns_resetBegun, State.owns]
    cases he : s.entry k.number with
    | none => simp
    | some e => simp [(s.entry_lt _ e he).trans_le hm]
  simp only [howns, hbegun, List.filter_append, List.append_assoc] at hposts
  obtain ⟨hqueue, hent⟩ := s.originReset_frame o
  rw [State.queuedOf_congr hqueue]
  simp only [hent]
  refine ⟨_, hposts, fun k hk => hapart.entry_ne_none ?_⟩
  rw [hposts]
  exact List.mem_append_right _ hk

/-- An ACTIVE poll ticket is orphaned where its entry is the origin's. -/
theorem State.PollsApart.originReset_active (h : s.PollsApart) (hm : s.mirror.length ≤ 32) {k : Ticket}
    (ha : s.queue.active = some k) (hk : k.origin = .p) (hn : k.orphaned = false) :
    (s.originReset o).queue.active = some { k with orphaned := s.owns o k.number } := by
  obtain ⟨-, -, hactive⟩ := (h.resetBegun o).droppedBelow o 32
  rw [(s.originReset_frame o).1, hactive, State.resetBegun_active, ha, Option.map_some, Option.map_some,
    Ticket.orphanedBy_p hk, State.owns_resetBegun]
  cases ho : s.owns o k.number with
  | false => simp [← hn]
  | true =>
    obtain ⟨e, he, -⟩ := (Option.any_eq_true _ _).1 ho
    simp [hk, (s.entry_lt _ e he).trans_le hm]

/-- Settles O29: the queue's part, the lease table's, the mirror's drops one after another, and the records'. -/
theorem originResetClearsOrigin : Obligations.OriginResetClearsOrigin := by
  intro o s hh hm
  let act : State → State × Reply := fun u => (u.originReset o, .answer .ok [])
  obtain ⟨-, -, hq, hmir, -, hrec⟩ := State.carryOut_frame s o act
  have hleases : (s.carryOut o act).leases = (s.originReset o).leases := by simp [State.carryOut, act]
  have hent : ∀ i, (s.carryOut o act).entry i = (s.originReset o).entry i := State.entry_congr hmir
  have hentry := State.originReset_entry hm o
  obtain ⟨hwaiting, hcounter, hcurrent, hcredit⟩ := Queue.fields_of_besidesPolls (s.originReset_besidesPolls o)
  refine ⟨_, command_hands s o _ act hh, s.answered_carryOut o act _ _ rfl,
    (State.recOf_congr hrec o).trans (s.recOf_originReset o), ?_, ?_, ?_, fun k ha hk => ?_,
    hleases.trans (s.originReset_leases o), fun i e he => ?_, fun i e he ho => ?_, fun q hqo => ⟨?_, ?_, ?_, ?_⟩,
    fun hpolls hmarks => ⟨?_, fun k ha hk hn => ?_⟩, ?_, ?_⟩
  · rw [State.queuedOf_congr hq, State.originReset_queuedOf]
    exact PerOrigin.get_set ..
  · rw [State.waitingOf, hq, hwaiting]
    exact PerDirect.get_set ..
  · rw [hq, hcounter]
    exact PerDirect.get_set ..
  · rw [hq]
    exact State.originReset_active ha hk
  · have hi := hentry i
    rw [← hent, he] at hi
    split_ifs at hi with ho
    · cases hi
    · obtain ⟨e', he', hee⟩ := Option.map_eq_some_iff.1 hi.symm
      have howner := congrArg Entry.owner hee
      have hsubs := congrArg (fun x => x.subs.get o) hee
      simp only [Entry.unposted, Entry.unsubscribed, PerDirect.get_set] at howner hsubs
      refine ⟨fun hc => ho ?_, hsubs.symm⟩
      simp [State.owns, he', howner, hc]
  · have hi := hentry i
    rw [← hent, he, if_neg (by simpa [State.owns, he] using ho)] at hi
    obtain ⟨e', he', hee⟩ := Option.map_eq_some_iff.1 hi
    exact ⟨e'.posted, he'.trans (congrArg some (Entry.eq_of_unposted hee))⟩
  · rw [State.queuedOf_congr hq, State.originReset_queuedOf]
    exact PerOrigin.get_set_of_ne _ _ _ _ fun hc => hqo (directOrigin_inj.1 hc)
  · rw [State.waitingOf, hq, hwaiting]
    exact PerDirect.get_set_of_ne _ _ _ _ hqo
  · rw [hq, hcounter]
    exact PerDirect.get_set_of_ne _ _ _ _ hqo
  · exact (State.recOf_congr hrec q).trans (s.originReset_told hqo)
  · simp only [State.queuedOf_congr hq, hent]
    exact ((State.pollsApart_iff s).2 ⟨hpolls, hmarks⟩).originReset_queuedOf hm o
  · rw [hq]
    exact ((State.pollsApart_iff s).2 ⟨hpolls, hmarks⟩).originReset_active hm ha hk hn
  · rw [hq]
    exact hcurrent
  · rw [hq]
    exact hcredit

end Sys2Proof.Machine

/-! A step, by the queue of commands: the command at its front, or idling (log 4). -/

namespace Sys2Proof.Machine

variable {s : State} {i : Instr} {rest : List Instr}

theorem step_of_pending_cons (h : s.pending = i :: rest) : step s = exec i (s.setPending rest) := by
  simp only [step, h]

theorem step_of_pending_nil (h : s.pending = []) : step s = .next s := by
  simp only [step, h]

/-- The later queue of commands stands: `setPending` writes nothing but the queue. -/
@[simp] theorem State.setPending_setPending (s : State) (l m : List Instr) :
    (s.setPending l).setPending m = s.setPending m := rfl

/-- Settles O1, by the two cases of the queue. -/
theorem stepRunsFrontCommand : Obligations.StepRunsFrontCommand := by
  refine ⟨fun i rest s => ?_, fun _ => step_of_pending_nil⟩
  have hfront : (s.setPending (i :: rest)).pending = i :: rest := by simp
  rw [step_of_pending_cons hfront, State.setPending_setPending]

end Sys2Proof.Machine
